-- ==== Sys2Proof/Word.lean ====
section
/-! DEFINITION. The words of the fht-7901 OOK encoder core: bytes, nibbles, host command words and the 5-bit network
address, numbered with bit 0 the least significant bit (R9). -/

namespace Sys2Proof

/-- A byte on the transport, in the frame buffer or in a transceiver register (R67). -/
abbrev Byte := BitVec 8

/-- One line-code symbol: four chips, chip 0 the most significant bit (R9, R64). -/
abbrev Nibble := BitVec 4

/-- A host command word (R80). -/
abbrev CmdWord := BitVec 64

/-- A transceiver register address (R61). -/
abbrev RegAddr := BitVec 7

/-- A network address, 0 to 31 (R95). -/
abbrev NetAddr := BitVec 5

end Sys2Proof
end

