-- ==== Sys2Proof/Config.lean ====
section
/-! DEFINITION. The configuration record `Params` (R6): what the spec leaves to the implementation, fixed for the life of
the machine. The default record and the well-formedness check (R8) are in Machine/Params.lean. -/

namespace Sys2Proof

/-- A group: two data bits, `first` first in time (R94). A table entry is a data bit, so R8's "every line-code table
entry is a data-symbol value in 0, 1" holds by the type. -/
structure Group where
  first  : Bool
  second : Bool
  deriving DecidableEq, Repr

/-- The open parameters of R6, each named after the spec's name (D8 to D13, D16, D22 to D25, D28). -/
structure Params where
  regFifo          : Byte
  regOpmode        : Byte
  regBitrateMsb    : Byte
  regBitrateLsb    : Byte
  regFrfMsb        : Byte
  regFrfMid        : Byte
  regFrfLsb        : Byte
  regPaConfig      : Byte
  regPaRamp        : Byte
  regPreambleMsb   : Byte
  regPreambleLsb   : Byte
  regSyncConfig    : Byte
  regPacketConfig1 : Byte
  regPacketConfig2 : Byte
  regPayloadLength : Byte
  regPaDac         : Byte
  modeSleep        : Byte
  modeStandby      : Byte
  modeTxOok        : Byte
  valSyncConfig    : Byte
  valPacketConfig1 : Byte
  valPacketConfig2 : Byte
  valPaRamp        : Byte
  paDacHigh        : Byte
  paDacNormal      : Byte
  writeBit         : Byte
  resetWaitMs      : Nat
  settleMs         : Nat
  fifoChunks       : List Nat
  groupFill        : Group
  groupSel         : Group
  actOn            : Group × Group
  actOff           : Group × Group
  endTail          : Vector Group 7
  deriving DecidableEq, Repr

end Sys2Proof
end

