-- ==== Sys2Proof/Machine/Params.lean ====
section
/-! DEFINITION. The constants of R6 and R7, the default `Params` record (D8 to D13, D16, D22 to D25, D28) and the
well-formedness check of R8. -/

namespace Sys2Proof.Machine

/-- `round(n / d)` in exact arithmetic, halves up (R10). -/
def roundHalfUp (n d : Nat) : Nat := (2 * n + d) / (2 * d)

/-- Oscillator frequency in Hz (R6). -/
def fOsc : Nat := 32000000

/-- Denominator of the frequency step: FSTEP = fOsc / 2^19 (R6). -/
def fstepDenom : Nat := 2 ^ 19

/-- Packet repetitions and lengths (R6). -/
def cmdRepeat : Nat := 12
def endRepeat : Nat := 3
def pktLen : Nat := 13
def frameLen : Nat := 195

/-- Power limits and the high-power threshold and offset in dBm (R6). -/
def powerMin : Int := 5
def powerMax : Int := 23
def hpThreshold : Int := 20
def hpOffset : Int := 3

/-- The power-select bit of the PA configuration byte (R6). -/
def paSelect : Byte := 0x80

/-- The default frequency and power (R6), as the operands CONFIGURE latches. -/
def defaultFreqHz : BitVec 32 := 433790000
def defaultPower : BitVec 8 := 5

/-- The hardwired bitrate divisor, 4800 (R7, R145). -/
def bitrateDiv : BitVec 16 := 0x12C0

/-- The payload length register's value, 195 (R7). -/
def payloadLen : Byte := 0xC3

/-- The default record: SX127x addresses and values, as the spec's decisions take them (D8 to D13, D16, D22 to D25, D28). -/
def defaultParams : Params where
  regFifo          := 0x00
  regOpmode        := 0x01
  regBitrateMsb    := 0x02
  regBitrateLsb    := 0x03
  regFrfMsb        := 0x06
  regFrfMid        := 0x07
  regFrfLsb        := 0x08
  regPaConfig      := 0x09
  regPaRamp        := 0x0A
  regPreambleMsb   := 0x25
  regPreambleLsb   := 0x26
  regSyncConfig    := 0x27
  regPacketConfig1 := 0x30
  regPacketConfig2 := 0x31
  regPayloadLength := 0x32
  regPaDac         := 0x4D
  modeSleep        := 0x00
  modeStandby      := 0x01
  modeTxOok        := 0x23
  valSyncConfig    := 0x00
  valPacketConfig1 := 0x00
  valPacketConfig2 := 0x40
  valPaRamp        := 0x29
  paDacHigh        := 0x07
  paDacNormal      := 0x04
  writeBit         := 0x80
  resetWaitMs      := 100
  settleMs         := 1000
  fifoChunks       := [195]
  groupFill        := ⟨true, false⟩
  groupSel         := ⟨false, true⟩
  actOn            := (⟨false, true⟩, ⟨true, false⟩)
  actOff           := (⟨true, false⟩, ⟨false, true⟩)
  endTail          := Vector.replicate 7 ⟨true, false⟩

/-- Every register address of the record (R8, R160). -/
def regAddrs (p : Params) : List Byte :=
  [p.regFifo, p.regOpmode, p.regBitrateMsb, p.regBitrateLsb, p.regFrfMsb, p.regFrfMid, p.regFrfLsb, p.regPaConfig,
   p.regPaRamp, p.regPreambleMsb, p.regPreambleLsb, p.regSyncConfig, p.regPacketConfig1, p.regPacketConfig2,
   p.regPayloadLength, p.regPaDac]

/-- Addresses are below 0x80, and below the write bit when that is 0x80; the multi-byte groups are distinct (R8). DEDUCED: that
the most significant byte has the lowest address (R65), at ascending (D14) or consecutive addresses, is not demanded, as R8's
check asks for distinct addresses only (log entry 24). -/
def addrsWf (p : Params) : Bool :=
  (regAddrs p).all (fun a => decide (a.toNat < 0x80) && (p.writeBit != 0x80 || decide (a.toNat < p.writeBit.toNat))) &&
  p.regFrfMsb != p.regFrfMid && p.regFrfMsb != p.regFrfLsb && p.regFrfMid != p.regFrfLsb &&
  p.regBitrateMsb != p.regBitrateLsb && p.regPreambleMsb != p.regPreambleLsb

/-- The burst split: positive lengths that sum to 195 (R8). -/
def chunksWf (p : Params) : Bool :=
  p.fifoChunks.all (fun n => decide (0 < n)) && p.fifoChunks.sum == frameLen

/-- The field constraints on the packet-mode and shaping values (R157, R159). -/
def valuesWf (p : Params) : Bool :=
  !p.valSyncConfig.getLsbD 4 &&
  !p.valPacketConfig1.getLsbD 7 && p.valPacketConfig1.extractLsb' 5 2 == 0 && !p.valPacketConfig1.getLsbD 4 &&
  p.valPacketConfig1.extractLsb' 1 2 == 0 &&
  p.valPacketConfig2.getLsbD 6 && !p.valPacketConfig2.getLsbD 5 && p.valPacketConfig2.extractLsb' 0 3 == 0 &&
  p.valPaRamp.extractLsb' 5 2 == 1

/-- The delays are at least the stated minima (R6, D16). -/
def delaysWf (p : Params) : Bool :=
  decide (100 ≤ p.resetWaitMs) && decide (1000 ≤ p.settleMs)

/-- R8's check, with the constraints R157, R159 and R6 put on the record (log entry 2): a model refuses a record that
fails it (U22). DEDUCED: of the line-code tables only `GROUP_SEL` and `GROUP_FILL` must differ, as R8 says; that `ACT_ON` and
`ACT_OFF` differ, which the injectivity of R222 rests on, or mirror each other (R188), and that `END_TAIL` has no `GROUP_SEL`
(R189), is not demanded (log entry 25). -/
def paramsWf (p : Params) : Bool :=
  addrsWf p && chunksWf p && p.groupSel != p.groupFill && valuesWf p && delaysWf p

end Sys2Proof.Machine
end

