-- ==== Sys2Proof/Syntax.lean ====
section
/-! DEFINITION. The instructions: one constructor for each of the 29 rows of spec/opcode_table.json. The table's rows are
host commands and their pseudo-instructions (`cmd64`), sequencer steps (`fsm_step`), transport transactions (`spi_txn`),
line-code symbols, packets and the frame. -/

namespace Sys2Proof

/-- The five device positions, A first in time (R83, R185). -/
inductive Device where
  | A | B | C | D | E
  deriving DecidableEq, Repr

/-- The two actions (R83). -/
inductive Action where
  | off | on
  deriving DecidableEq, Repr

/-- Every row of the opcode table. Host-command operands are the raw 8-bit fields of R83, since out-of-range values can be
presented and have an effect (INVALID_PARAMETER). -/
inductive Instr where
  /-- CONFIGURE (R82): default bit, power field, frequency field. -/
  | configure (d : Bool) (pwr : BitVec 8) (freq : BitVec 32)
  /-- TRANSMIT (R83): the fields ADDR, DEV, ACT. -/
  | transmit (addr dev act : Byte)
  /-- BUILD_FRAME (R83): the fields ADDR, DEV, ACT. -/
  | buildFrameCmd (addr dev act : Byte)
  /-- CONFIGURE.DEFAULT, a pseudo-instruction (R88). -/
  | configureDefault
  /-- ON, a pseudo-instruction (R88). -/
  | on (addr dev : Byte)
  /-- OFF, a pseudo-instruction (R88). -/
  | off (addr dev : Byte)
  /-- A word that matches no other row (R81, R85). -/
  | illegal (w : CmdWord)
  /-- Configure step 1 (R150). -/
  | cReset
  /-- Configure step 2 (R151). -/
  | cSleep
  /-- Configure step 3 (R152). -/
  | cBitrate
  /-- Configure step 4 (R153). -/
  | cFreq
  /-- Configure step 5 (R154). -/
  | cPower
  /-- Configure step 6 (R155). -/
  | cStandby
  /-- Configure step 7 (R156). -/
  | cPreamble
  /-- Configure step 8 (R157). -/
  | cPacket
  /-- Configure step 9 (R158). -/
  | cPayload
  /-- Configure step 10 (R159). -/
  | cShaping
  /-- Transmit step 12 (R232). -/
  | tPayload
  /-- Transmit step 13 (R233). -/
  | tMode
  /-- Transmit step 14 (R234). -/
  | tFifo
  /-- Single-byte register write (R120). -/
  | wr (a : RegAddr) (v : Byte)
  /-- Burst write into one register (R121). -/
  | wrBurst (a : RegAddr) (bs : List Byte)
  /-- Single-byte register read (R122). -/
  | rd (a : RegAddr)
  /-- The data symbol 0 (R180). -/
  | zero
  /-- The data symbol 1 (R180). -/
  | one
  /-- The pad symbol (R190). -/
  | silence
  /-- A command packet (R194). -/
  | cmdPacket (addr : NetAddr) (dev : Device) (act : Action)
  /-- An end-marker packet (R194). -/
  | endPacket (addr : NetAddr)
  /-- A whole frame (R220). -/
  | buildFrame (addr : NetAddr) (dev : Device) (act : Action)
  deriving DecidableEq, Repr

/-- An operation presented to a leaf block, as the bits the opcode table gives it: the bytes of a transaction (R90), the
nibble of a symbol (R92), the bytes of a packet (R96) or of a frame (R97). -/
inductive UnitReq where
  | txn (bytes : List Byte)
  | symbol (n : Nibble)
  | packet (bytes : List Byte)
  | frame (bytes : List Byte)
  deriving DecidableEq, Repr

/-- An encoded instruction, by the table's format: a host command word, a sequencer code (R21) or a leaf operation. -/
inductive Code where
  | cmd (w : CmdWord)
  | step (c : BitVec 4)
  | unit (u : UnitReq)
  deriving DecidableEq, Repr

end Sys2Proof
end

