-- ==== Sys2Proof/Machine/State.lean ====
section
/-! DEFINITION. The machine's state as plain data: the core's record (R20), the configuration record (R6), the event trace
(R31), and the inputs from the host, the environment and the platform that the next steps read. -/

namespace Sys2Proof.Machine

/-- The sequencer state `seq` (R21); `reserved15` is the code no rule enters. -/
inductive Seq where
  | idleUnconf
  | cReset | cSleep | cBitrate | cFreq | cPower | cStandby | cPreamble | cPacket | cPayload | cShaping
  | idleReady
  | tPayload | tMode | tFifo
  | reserved15
  deriving DecidableEq, Repr

/-- The transceiver operating mode the core last wrote (R27). -/
inductive ShadowMode where
  | unknown | sleep | standby | txOok
  deriving DecidableEq, Repr

/-- The decoded command being executed (R33). -/
inductive Cur where
  | configure
  | transmit (addr : NetAddr) (dev : Device) (act : Action)
  | buildFrame (addr : NetAddr) (dev : Device) (act : Action)
  deriving DecidableEq, Repr

/-- The core's record, exactly the fields of R20. -/
structure Core where
  seq        : Seq
  lastErr    : BitVec 3
  errStep    : Seq
  freqHz     : BitVec 32
  powerReq   : BitVec 8
  frf        : BitVec 24
  paDac      : Byte
  paConfig   : Byte
  shadowMode : ShadowMode
  plenCache  : Option Byte
  txModeSet  : Bool
  fb         : List Host.Cell
  fifoPos    : Nat
  chunkIdx   : Nat
  cur        : Cur
  result     : Option (List Byte)
  deriving DecidableEq, Repr

/-- The level driven on the reset line (R12). -/
inductive Level where
  | deassert | assert
  deriving DecidableEq, Repr

/-- How a transaction ended (R12). -/
inductive TxnOutcome where
  | ok (ins : List Byte)
  | fail (sent : Nat)
  deriving DecidableEq, Repr

/-- An event of the trace (R31). -/
inductive Event where
  | reset (level : Level)
  | delay (ms : Nat)
  | txn (out : List Byte) (nin : Nat) (outcome : TxnOutcome)
  deriving DecidableEq, Repr

/-- The environment's draw for one transaction (R12, U10, U11): it succeeds, with the byte received if one is read, or
fails after some of the out bytes were sent. -/
inductive Answer where
  | ok (byte : Byte)
  | fail (sent : Nat)
  deriving DecidableEq, Repr

/-- The machine. `params` is configuration that no step writes (log entry 1). `host` holds the words the host presents one
after another (log entry 7), `env` the environment's answers to coming transactions (log entry 5), `unit` an operation
presented straight to a leaf block and `unitOut` what the last such operation returned (log entry 8), `resetReq` a pending
core reset (log entry 11). -/
structure State where
  params   : Params
  core     : Core
  trace    : List Event
  host     : List CmdWord
  env      : List Answer
  unit     : Option UnitReq
  unitOut  : List Byte
  resetReq : Bool
  deriving DecidableEq, Repr

/-- Why the machine stops. -/
inductive Fault where
  /-- The sequencer holds the reserved code 15: raised by the step and by every host command (R21, U4). No step enters that
  code. Safe. -/
  | reservedSeq
  /-- `lastErr` holds a reserved error code: raised by the step (U5). No step writes one. Safe. -/
  | reservedErrCode
  /-- `chunkIdx` is past the end of `FIFO_CHUNKS`: raised by T_FIFO (R234 gives no chunk there). No step leads there. Safe. -/
  | noFifoChunk
  /-- A frame-buffer index outside 0 to 194, which does not exist: raised by T_FIFO (R60). No step leads there. Safe. -/
  | frameIndexOutside
  deriving DecidableEq, Repr

/-- What the machine declines to run. -/
inductive Refusal where
  /-- The instruction has no meaning yet: raised by a refused arm of the dispatch. Safe. -/
  | notModelled (mnemonic : String)
  /-- The configuration record fails R8: raised by the step, since the model is not instantiated then (U22). Safe. -/
  | paramsIllFormed
  /-- The bits presented to a leaf block are no operation of the table: raised by the step. Safe. -/
  | unitRejected (reason : String)
  /-- A burst with no data byte, which is no instruction (R90, R121): raised by the burst write. Safe. -/
  | emptyBurst
  deriving DecidableEq, Repr

/-- The core's record after reset (R40). `frf`, `paDac`, `paConfig` and `cur` are unspecified there and hold values this
model names (log entry 4); the frame buffer lists nothing (log entry 3). -/
def Core.reset : Core where
  seq        := .idleUnconf
  lastErr    := 0
  errStep    := .idleUnconf
  freqHz     := defaultFreqHz
  powerReq   := defaultPower
  frf        := 0
  paDac      := 0
  paConfig   := 0
  shadowMode := .unknown
  plenCache  := none
  txModeSet  := false
  fb         := []
  fifoPos    := 0
  chunkIdx   := 0
  cur        := .configure
  result     := none

/-- The machine right after reset (R40, R280): the default configuration, the core's reset record, an empty trace and no
pending input (log entry 20). -/
def State.reset : State where
  params   := defaultParams
  core     := Core.reset
  trace    := []
  host     := []
  env      := []
  unit     := none
  unitOut  := []
  resetReq := false

end Sys2Proof.Machine
end

