-- ==== Sys2Proof/Machine/Flags.lean ====
section
/-! DEFINITION. Codes of the sequencer states, errors and modes, the status predicates (R22) and the status register (R34). -/

namespace Sys2Proof.Machine

/-- The 4-bit code of a sequencer state (R21). -/
def seqCode : Seq → BitVec 4
  | .idleUnconf => 0
  | .cReset => 1
  | .cSleep => 2
  | .cBitrate => 3
  | .cFreq => 4
  | .cPower => 5
  | .cStandby => 6
  | .cPreamble => 7
  | .cPacket => 8
  | .cPayload => 9
  | .cShaping => 10
  | .idleReady => 11
  | .tPayload => 12
  | .tMode => 13
  | .tFifo => 14
  | .reserved15 => 15

/-- The sequencer states in the order of their codes (R21). -/
def allSeqs : List Seq :=
  [.idleUnconf, .cReset, .cSleep, .cBitrate, .cFreq, .cPower, .cStandby, .cPreamble, .cPacket, .cPayload, .cShaping,
   .idleReady, .tPayload, .tMode, .tFifo, .reserved15]

/-- The sequencer state of a code (R21). -/
def seqOfCode (c : BitVec 4) : Seq := (allSeqs[c.toNat]?).getD .reserved15

/-- `cfgDone` (R22). -/
def cfgDone : Seq → Bool
  | .idleReady | .tPayload | .tMode | .tFifo => true
  | .idleUnconf | .cReset | .cSleep | .cBitrate | .cFreq | .cPower | .cStandby | .cPreamble | .cPacket | .cPayload
  | .cShaping | .reserved15 => false

/-- `busy` (R22). -/
def busy : Seq → Bool
  | .cReset | .cSleep | .cBitrate | .cFreq | .cPower | .cStandby | .cPreamble | .cPacket | .cPayload | .cShaping
  | .tPayload | .tMode | .tFifo => true
  | .idleUnconf | .idleReady | .reserved15 => false

/-- The errors that are raised (R250, R251). -/
inductive Err where
  | transportFailure | invalidParameter | configNotComplete | illegalCommand | preconditionViolation
  deriving DecidableEq, Repr

/-- The code of an error (R250); 0 is NONE, 6 and 7 are reserved. -/
def errCode : Err → BitVec 3
  | .transportFailure => 1
  | .invalidParameter => 2
  | .configNotComplete => 3
  | .illegalCommand => 4
  | .preconditionViolation => 5

/-- An error code that R250 reserves. -/
def errReserved (c : BitVec 3) : Bool := c = 6 || c = 7

/-- The execution-time errors, which end the session (R253, R254). -/
def endsSession : Err → Bool
  | .transportFailure | .preconditionViolation => true
  | .invalidParameter | .configNotComplete | .illegalCommand => false

/-- The code of a shadow mode (R27). -/
def modeCode : ShadowMode → BitVec 2
  | .unknown => 0
  | .sleep => 1
  | .standby => 2
  | .txOok => 3

/-- The status register, from bit 31 down to bit 0 (R34). Reading it has no side effect. -/
def statusOf (c : Core) : BitVec 32 :=
  (0 : BitVec 14) ++ modeCode c.shadowMode ++ seqCode c.errStep ++ (0 : BitVec 1) ++ c.lastErr ++
  BitVec.ofBool c.plenCache.isSome ++ BitVec.ofBool c.txModeSet ++ BitVec.ofBool (busy c.seq) ++
  BitVec.ofBool (cfgDone c.seq) ++ seqCode c.seq

/-- What the host reads as STATUS (R34). -/
def status (s : State) : BitVec 32 := statusOf s.core

end Sys2Proof.Machine
end

