-- ==== Sys2Proof/Machine/Codec.lean ====
section
/-! DEFINITION. The line codec and the framer as pure functions (R92 to R97, R180 to R195, R220). The line-code tables are
those of the `Params` record; symbol strings are in transmission order. -/

namespace Sys2Proof.Machine

/-- `SYM(b)` (R92, R180). -/
def sym (b : Bool) : Nibble := if b then 0xE else 0x8

/-- The pad symbol (R92). -/
def sil : Nibble := 0x0

/-- `UNSYM`, partial (R93): a data symbol's bit, none for silence and for the 13 nibbles the encoder never produces. -/
def unsym (n : Nibble) : Option Bool :=
  if n = 0x8 then some false else if n = 0xE then some true else none

/-- `GRP(g)` (R181). -/
def grp (g : Group) : List Nibble := [sym g.first, sym g.second]

/-- `addrField(a)`: bit 4 first, each bit with a companion ONE (R182, D20). DEDUCED: no field of `Params` changes the bit
order, as R6 lists none, though U20 calls it a parameter (log entry 23). -/
def addrField (a : NetAddr) : List Nibble :=
  (List.range 5).flatMap fun i => [sym (a.getLsbD (4 - i)), sym true]

/-- `SEP` (R184). -/
def sep : List Nibble := [sym false]

/-- The device's position, A = 0 to E = 4 (R185, D21). DEDUCED: no field of `Params` changes it, as R6 lists none, though U20
calls it a parameter (log entry 23). -/
def devPos : Device → Nat
  | .A => 0 | .B => 1 | .C => 2 | .D => 3 | .E => 4

/-- `devField(d)`: the selected group at the device's position, the filler at the other four (R185). -/
def devField (p : Params) (d : Device) : List Nibble :=
  (List.range 5).flatMap fun q => grp (if q = devPos d then p.groupSel else p.groupFill)

/-- `actField(c)` (R187). -/
def actField (p : Params) : Action → List Nibble
  | .on  => grp p.actOn.1 ++ grp p.actOn.2
  | .off => grp p.actOff.1 ++ grp p.actOff.2

/-- `endField` (R189). -/
def endField (p : Params) : List Nibble := p.endTail.toList.flatMap grp

/-- `PAD` (R190). -/
def pad : List Nibble := [sil]

/-- `cmdSyms(a, d, c)`, 26 symbols (R191). -/
def cmdSyms (p : Params) (a : NetAddr) (d : Device) (c : Action) : List Nibble :=
  addrField a ++ sep ++ devField p d ++ actField p c ++ pad

/-- `endSyms(a)`, 26 symbols (R192). -/
def endSyms (p : Params) (a : NetAddr) : List Nibble :=
  addrField a ++ sep ++ endField p ++ pad

/-- Two symbols in a byte, the earlier in the high nibble (R64, R96, R193, D26). DEDUCED: no field of `Params` changes the
order, as R6 lists none, though U20 calls the chip order a parameter (log entry 23). -/
def packByte (hi lo : Nibble) : Byte := hi.setWidth 8 <<< 4 ||| lo.setWidth 8

/-- `pack(ns)` (R193), called with an even number of symbols only. -/
def pack : List Nibble → List Byte
  | hi :: lo :: rest => packByte hi lo :: pack rest
  | _ => []

/-- `cmdPacket(a, d, c)`, 13 bytes (R194). -/
def cmdPacket (p : Params) (a : NetAddr) (d : Device) (c : Action) : List Byte := pack (cmdSyms p a d c)

/-- `endPacket(a)`, 13 bytes (R194). -/
def endPacket (p : Params) (a : NetAddr) : List Byte := pack (endSyms p a)

/-- `buildFrame(a, d, c)`: 12 command packets, then 3 end-marker packets (R220). -/
def buildFrame (p : Params) (a : NetAddr) (d : Device) (c : Action) : List Byte :=
  (List.replicate cmdRepeat (cmdPacket p a d c)).flatten ++ (List.replicate endRepeat (endPacket p a)).flatten

/-- The eight chips of a byte in time order: chip k is bit 7 - k (R64, D26). DEDUCED: no field of `Params` changes the order, as
R6 lists none, though U20 calls it a parameter (log entry 23). -/
def chipsOfByte (b : Byte) : List Bool := (List.range 8).map fun k => b.getLsbD (7 - k)

/-- The chips of a byte string in time order (R63, R64, R195). -/
def chips (bs : List Byte) : List Bool := bs.flatMap chipsOfByte

/-- Air time of a chip in microseconds: one bit period of the divisor (R7, R300). -/
def chipMicros : Nat := 1000000 * bitrateDiv.toNat / fOsc

/-- Air time of a byte string in microseconds (R300). -/
def airMicros (bs : List Byte) : Nat := chipMicros * (chips bs).length

end Sys2Proof.Machine
end

