-- ==== Sys2Proof/Machine/Operands.lean ====
section
/-! DEFINITION. Operand forms and the functions the steps compute: operand assembly and its checks (R84), the frequency word
(R141, R142), the power clamp and encoding (R143, R144) and the transaction formats (R90). -/

namespace Sys2Proof.Machine

/-- CONFIGURE's frequency operand (R84). -/
def freqOperand (d : Bool) (freq : BitVec 32) : BitVec 32 := if d then defaultFreqHz else freq

/-- CONFIGURE's power operand, two's complement (R84). -/
def powerOperand (d : Bool) (pwr : BitVec 8) : BitVec 8 := if d then defaultPower else pwr

/-- The device a DEV field names; 5 to 255 are invalid (R83). -/
def deviceOf (dev : Byte) : Option Device :=
  if dev = 0 then some .A else if dev = 1 then some .B else if dev = 2 then some .C
  else if dev = 3 then some .D else if dev = 4 then some .E else none

/-- The action an ACT field names; 2 to 255 are invalid (R83). -/
def actionOf (act : Byte) : Option Action :=
  if act = 0 then some .off else if act = 1 then some .on else none

/-- The address an ADDR field names; 32 to 255 are invalid (R83). -/
def addrOf (addr : Byte) : Option NetAddr :=
  if addr.toNat ≤ 31 then some (addr.setWidth 5) else none

/-- The operands of TRANSMIT and BUILD_FRAME: valid when `addr <= 31`, `dev <= 4`, `act <= 1` (R84). -/
def txOperands (addr dev act : Byte) : Option (NetAddr × Device × Action) :=
  match addrOf addr, deviceOf dev, actionOf act with
  | some a, some d, some c => some (a, d, c)
  | _, _, _ => none

/-- `frfWord(hz)` (R142); the rule's sum with its constant first, so that the kernel does not count it down. -/
def frfWord (hz : Nat) : Nat := (500000 + hz * 16384) / 1000000

/-- The frequency's word fits its 24-bit register (R141). -/
def freqValid (freq : BitVec 32) : Bool := decide (frfWord freq.toNat ≤ 0xFFFFFF)

/-- The frequency word as the `frf` register holds it (R153). -/
def frfOf (freq : BitVec 32) : BitVec 24 := BitVec.ofNat 24 (frfWord freq.toNat)

/-- `pclamp(req)` (R143). -/
def pclamp (req : Int) : Int := min (max req powerMin) powerMax

/-- The PA configuration byte for a power already clamped and offset: `PA_SELECT | (p - 5)` (R144). -/
def paConfigOf (q : Int) : Byte := paSelect ||| BitVec.ofInt 8 (q - powerMin)

/-- `powerEncode(req)`: the high-power path value and the PA configuration byte (R144). -/
def powerEncode (p : Params) (req : Int) : Byte × Byte :=
  if hpThreshold < pclamp req then (p.paDacHigh, paConfigOf (pclamp req - hpOffset))
  else (p.paDacNormal, paConfigOf (pclamp req))

/-- The bytes of `WrBurst(a, bs)`; of `Wr(a, v)` with one data byte (R13, R90). -/
def writeBytes (p : Params) (a : Byte) (bs : List Byte) : List Byte := (a ||| p.writeBit) :: bs

/-- The bytes of `Rd(a)`: the address with bit 7 clear, then a dummy byte (R13, R90). -/
def readBytes (a : Byte) : List Byte := [a &&& 0x7F, 0x00]

end Sys2Proof.Machine
end

