-- ==== Sys2Proof/Machine/Ops.lean ====
section
/-! DEFINITION. The shared operations: the frame buffer, the event trace, transactions, the error exit, command acceptance
and core reset. -/

namespace Sys2Proof.Machine

/-- What a step answers. -/
abbrev Out := Host.Outcome State Fault Refusal

/-! ## Updates of the core's record -/

def Core.setSeq (c : Core) (q : Seq) : Core := { c with seq := q }
def Core.setErr (c : Core) (e : BitVec 3) (at_ : Seq) : Core := { c with lastErr := e, errStep := at_ }
def Core.setOperands (c : Core) (f : BitVec 32) (p : BitVec 8) : Core := { c with freqHz := f, powerReq := p }
def Core.setFrf (c : Core) (w : BitVec 24) : Core := { c with frf := w }
def Core.setPa (c : Core) (dac cfg : Byte) : Core := { c with paDac := dac, paConfig := cfg }
def Core.setShadow (c : Core) (m : ShadowMode) : Core := { c with shadowMode := m }
def Core.setPlen (c : Core) (v : Option Byte) : Core := { c with plenCache := v }
def Core.setTxMode (c : Core) (b : Bool) : Core := { c with txModeSet := b }
def Core.setFb (c : Core) (m : List Host.Cell) : Core := { c with fb := m }
def Core.setFifo (c : Core) (pos idx : Nat) : Core := { c with fifoPos := pos, chunkIdx := idx }
def Core.setCur (c : Core) (u : Cur) : Core := { c with cur := u }
def Core.setResult (c : Core) (r : Option (List Byte)) : Core := { c with result := r }

/-- Mode UNKNOWN and both caches empty (R27 to R29). -/
def Core.endSession (c : Core) : Core := ((c.setShadow .unknown).setPlen none).setTxMode false

/-- The state with another core record. -/
def State.withCore (s : State) (c : Core) : State := { s with core := c }

/-- The state with an event appended to the trace (R31). -/
def State.emit (s : State) (e : Event) : State := { s with trace := s.trace ++ [e] }

/-- The state with the value a leaf operation returned. -/
def State.returns (s : State) (bs : List Byte) : State := { s with unitOut := bs }

/-! ## The frame buffer (R60) -/

/-- What an index nothing has written reads as (log entry 3). -/
def fbDefault : Byte := 0x00

/-- The stored byte at an index, the default where none is listed. -/
def memRead : List Host.Cell → Nat → Byte
  | [], _ => fbDefault
  | (b, w) :: m, a => if b = a then w else memRead m a

/-- Store a byte, keeping the list sorted and free of default bytes. -/
def memWrite : List Host.Cell → Nat → Byte → List Host.Cell
  | [], a, v => if v = fbDefault then [] else [(a, v)]
  | (b, w) :: m, a, v =>
    if a < b then (if v = fbDefault then (b, w) :: m else (a, v) :: (b, w) :: m)
    else if a = b then (if v = fbDefault then m else (a, v) :: m)
    else (b, w) :: memWrite m a v

/-- Every key of the list is above `lo`, keys rise strictly and no default byte is listed. -/
def memWfAbove : Option Nat → List Host.Cell → Bool
  | _, [] => true
  | lo, (a, v) :: m => (match lo with | none => true | some l => decide (l < a)) && v != fbDefault && memWfAbove (some a) m

/-- The canonical form of the frame buffer: strictly rising indices, no default byte, no index outside 0 to 194 (R60). -/
def Memory.wf (m : List Host.Cell) : Bool := memWfAbove none m && m.all (fun c => decide (c.1 < frameLen))

/-- `MemRead(FB, i, 1)`; no index outside 0 to 194 exists (R11, R60). -/
def fbRead (s : State) (i : Nat) : Option Byte := if i < frameLen then some (memRead s.core.fb i) else none

/-- `[MemRead(FB, i, 1) for i in pos .. pos + n - 1]`, none where an index does not exist (R234). -/
def fbSlice (s : State) (pos : Nat) : Nat → Option (List Byte)
  | 0 => some []
  | n + 1 =>
    match fbRead s pos, fbSlice s (pos + 1) n with
    | some b, some bs => some (b :: bs)
    | _, _ => none

/-- Store bytes at rising indices from `i`, while the index exists: `MemWrite(FB, i, 1, frame[i])` (R60). -/
def memWriteAll (m : List Host.Cell) (i : Nat) : List Byte → List Host.Cell
  | [] => m
  | b :: bs => memWriteAll (if i < frameLen then memWrite m i b else m) (i + 1) bs

/-- The whole buffer, indices 0 to 194. -/
def fbBytes (m : List Host.Cell) : List Byte := (List.range frameLen).map (memRead m)

/-! ## Transactions (R12, R13, R120 to R125) -/

/-- The outcome an answer gives a transaction of `nout` bytes out and `nin` in: `Fail(k)` has k at most `nout` (R12). -/
def outcomeOf (nout nin : Nat) : Answer → TxnOutcome
  | .ok b => .ok (List.replicate nin b)
  | .fail k => .fail (min k nout)

/-- How a list of write transactions went. -/
inductive Issued where
  /-- The environment answers fewer transactions than the list needs, none of them with a failure (R261). -/
  | unanswered
  /-- Every transaction ended `Ok`. -/
  | done (s : State)
  /-- A transaction ended `Fail`; the later ones were not issued (R124). -/
  | failed (s : State)
  deriving DecidableEq, Repr

/-- Issue write transactions in order, each completed before the next, up to the first failure (R72, R124, R148). -/
def issue : List (List Byte) → State → Issued
  | [], s => .done s
  | out :: outs, s =>
    match s.env with
    | [] => .unanswered
    | .ok b :: env' => issue outs (State.emit { s with env := env' } (.txn out 0 (outcomeOf out.length 0 (.ok b))))
    | .fail k :: env' => .failed (State.emit { s with env := env' } (.txn out 0 (outcomeOf out.length 0 (.fail k))))

/-! ## The error exit (R254) -/

/-- `raise E(step)`: record the error; an execution-time error also returns the core to IDLE_UNCONF and forgets the session. -/
def raiseErr (e : Err) (at_ : Seq) (s : State) : State :=
  if endsSession e then s.withCore (((s.core.setErr (errCode e) at_).setSeq .idleUnconf).endSession)
  else s.withCore (s.core.setErr (errCode e) at_)

/-- A step that issues writes. It starts in `s0`, the state with the step's computed fields written (R148). An unanswered
transaction leaves the step not taken and the state as it was (R261, log entry 6). -/
def runWrites (outs : List (List Byte)) (s s0 : State) (finish : State → State) : Out :=
  match issue outs s0 with
  | .unanswered => .next s
  | .failed t => .next (raiseErr .transportFailure s.core.seq t)
  | .done t => .next (finish t)

/-! ## Command acceptance (R230) -/

/-- The fields every acceptance clears (R230). -/
def clearForCommand (s : State) : State := s.withCore ((s.core.setResult none).setErr 0 .idleUnconf)

/-- Acceptance: enabled in the two idle states; in a busy state the host has no move (R35, U21); the reserved code faults
(R21). -/
def accept (s : State) (body : State → Out) : Out :=
  match s.core.seq with
  | .idleUnconf | .idleReady => body (clearForCommand s)
  | .reserved15 => .fault .reservedSeq
  | .cReset | .cSleep | .cBitrate | .cFreq | .cPower | .cStandby | .cPreamble | .cPacket | .cPayload | .cShaping
  | .tPayload | .tMode | .tFifo => .next s

/-- Refuse the command at acceptance: nothing but the error is recorded (R252). -/
def refuseCommand (e : Err) (s : State) : Out := .next (raiseErr e s.core.seq s)

/-! ## Core reset (R280) -/

/-- Every field of the core at its reset value and an empty trace; configuration and pending inputs stay (R40, R280). -/
def coreReset (s : State) : State := { s with core := Core.reset, trace := [], resetReq := false }

end Sys2Proof.Machine
end

