-- ==== Sys2Proof/Machine/Commands.lean ====
section
/-! DEFINITION. The host commands: CONFIGURE, TRANSMIT, BUILD_FRAME, their pseudo-instructions and illegal words. -/

namespace Sys2Proof.Machine

/-- CONFIGURE after the common acceptance (R140): refuse a frequency whose word does not fit, else latch the operands, clear
the session and start the sequence. `cur` is written at acceptance, as R33 says (DEDUCED where the pseudocode of R140 does not
list it, log entry 12). -/
def startConfigure (freq : BitVec 32) (pwr : BitVec 8) (s : State) : Out :=
  if freqValid freq then
    .next (s.withCore ((((s.core.setCur .configure).setOperands freq pwr).endSession).setSeq .cReset))
  else refuseCommand .invalidParameter s

/-- CONFIGURE (R140) with operands assembled by R84. -/
def configureOp (d : Bool) (pwr : BitVec 8) (freq : BitVec 32) (s : State) : Out :=
  accept s (startConfigure (freqOperand d freq) (powerOperand d pwr))

/-- TRANSMIT after its checks (R231, which writes `cur` after them). -/
def startTransmit (a : NetAddr) (d : Device) (c : Action) (s : State) : State :=
  s.withCore ((((s.core.setCur (.transmit a d c)).setFb
    (memWriteAll s.core.fb 0 (buildFrame s.params a d c))).setFifo 0 0).setSeq .tPayload)

/-- `result <- some FB` (R32, R236). -/
def returnBuffer (s : State) : State := s.withCore (s.core.setResult (some (fbBytes s.core.fb)))

/-- BUILD_FRAME after its checks (R236). `cur` is written at acceptance, as R33 says (DEDUCED where the pseudocode of R236 does
not list it, log entry 12). -/
def startBuildFrame (a : NetAddr) (d : Device) (c : Action) (s : State) : State :=
  returnBuffer (s.withCore ((s.core.setCur (.buildFrame a d c)).setFb
    (memWriteAll s.core.fb 0 (buildFrame s.params a d c))))

/-- The checks TRANSMIT and BUILD_FRAME share, in the order of R255: operand ranges, then the configuration gate. -/
def gated (addr dev act : Byte) (go : NetAddr → Device → Action → State → State) (s : State) : Out :=
  match txOperands addr dev act with
  | none => refuseCommand .invalidParameter s
  | some (a, d, c) => if cfgDone s.core.seq then .next (go a d c s) else refuseCommand .configNotComplete s

/-- TRANSMIT's acceptance (R230, R231). -/
def transmitOp (addr dev act : Byte) (s : State) : Out := accept s (gated addr dev act startTransmit)

/-- CONFIGURE (R140). -/
def execConfigure (d : Bool) (pwr : BitVec 8) (freq : BitVec 32) (s : State) : Out := configureOp d pwr freq s

/-- TRANSMIT (R231). -/
def execTransmit (addr dev act : Byte) (s : State) : Out := transmitOp addr dev act s

/-- BUILD_FRAME (R236). -/
def execBuildFrameCmd (addr dev act : Byte) (s : State) : Out := accept s (gated addr dev act startBuildFrame)

/-- CONFIGURE.DEFAULT: CONFIGURE with D = 1 and every other field 0 (R88). -/
def execConfigureDefault (s : State) : Out := configureOp true 0 0 s

/-- ON: TRANSMIT with ACT = 1 (R88). -/
def execOn (addr dev : Byte) (s : State) : Out := transmitOp addr dev 1 s

/-- OFF: TRANSMIT with ACT = 0 (R88). -/
def execOff (addr dev : Byte) (s : State) : Out := transmitOp addr dev 0 s

/-- A word that matches no row: ILLEGAL_COMMAND and no other effect (R81, R85). -/
def execIllegal (_w : CmdWord) (s : State) : Out := accept s (refuseCommand .illegalCommand)

end Sys2Proof.Machine
end

