-- ==== Sys2Proof/Machine/Configurator.lean ====
section
/-! DEFINITION. The ten configure steps (R150 to R159). -/

namespace Sys2Proof.Machine

/-- A step's success: the next sequencer code. -/
def advance (q : Seq) (s : State) : State := s.withCore (s.core.setSeq q)

/-- A step's success that also records a mode written (R151, R155). -/
def advanceMode (m : ShadowMode) (q : Seq) (s : State) : State := s.withCore ((s.core.setShadow m).setSeq q)

/-- The bitrate and frequency steps run only in mode SLEEP (R146). -/
def requireSleep (s : State) (body : Out) : Out :=
  if s.core.shadowMode = .sleep then body else .next (raiseErr .preconditionViolation s.core.seq s)

/-- Step 1 (R150). The reset line and the delay never fail (D34). -/
def execCReset (s : State) : Out :=
  .next (advance .cSleep ((((s.emit (.reset .deassert)).emit (.delay s.params.resetWaitMs)).emit (.reset .assert)).emit
    (.delay s.params.settleMs)))

/-- Step 2 (R151). -/
def execCSleep (s : State) : Out :=
  runWrites [writeBytes s.params s.params.regOpmode [s.params.modeSleep]] s s (advanceMode .sleep .cBitrate)

/-- Step 3 (R152), high byte first (R65). -/
def execCBitrate (s : State) : Out :=
  requireSleep s (runWrites
    [writeBytes s.params s.params.regBitrateMsb [bitrateDiv.extractLsb' 8 8],
     writeBytes s.params s.params.regBitrateLsb [bitrateDiv.extractLsb' 0 8]] s s (advance .cFreq))

/-- The three register writes of a frequency word, high byte first (R65, R153). -/
def frfWrites (p : Params) (w : BitVec 24) : List (List Byte) :=
  [writeBytes p p.regFrfMsb [w.extractLsb' 16 8], writeBytes p p.regFrfMid [w.extractLsb' 8 8],
   writeBytes p p.regFrfLsb [w.extractLsb' 0 8]]

/-- Step 4 (R153). -/
def execCFreq (s : State) : Out :=
  requireSleep s (runWrites (frfWrites s.params (frfOf s.core.freqHz)) s
    (s.withCore (s.core.setFrf (frfOf s.core.freqHz))) (advance .cPower))

/-- Step 5 (R154): the high-power register before the PA configuration (D15). -/
def execCPower (s : State) : Out :=
  let e := powerEncode s.params s.core.powerReq.toInt
  runWrites [writeBytes s.params s.params.regPaDac [e.1], writeBytes s.params s.params.regPaConfig [e.2]] s
    (s.withCore (s.core.setPa e.1 e.2)) (advance .cStandby)

/-- Step 6 (R155). -/
def execCStandby (s : State) : Out :=
  runWrites [writeBytes s.params s.params.regOpmode [s.params.modeStandby]] s s (advanceMode .standby .cPreamble)

/-- Step 7 (R156). -/
def execCPreamble (s : State) : Out :=
  runWrites [writeBytes s.params s.params.regPreambleMsb [0x00], writeBytes s.params s.params.regPreambleLsb [0x00]] s s
    (advance .cPacket)

/-- Step 8 (R157). -/
def execCPacket (s : State) : Out :=
  runWrites
    [writeBytes s.params s.params.regSyncConfig [s.params.valSyncConfig],
     writeBytes s.params s.params.regPacketConfig1 [s.params.valPacketConfig1],
     writeBytes s.params s.params.regPacketConfig2 [s.params.valPacketConfig2]] s s (advance .cPayload)

/-- Step 9 (R158). -/
def execCPayload (s : State) : Out :=
  runWrites [writeBytes s.params s.params.regPayloadLength [payloadLen]] s s
    (fun t => t.withCore ((t.core.setPlen (some payloadLen)).setSeq .cShaping))

/-- Step 10 (R159). -/
def execCShaping (s : State) : Out :=
  runWrites [writeBytes s.params s.params.regPaRamp [s.params.valPaRamp]] s s (advance .idleReady)

end Sys2Proof.Machine
end

