-- ==== Sys2Proof/Machine/LineCodec.lean ====
section
/-! DEFINITION. The line codec's and the framer's rows as instructions: each returns its value to the caller and writes no
state of the core (R180, R190, R194, R220; log entry 8). -/

namespace Sys2Proof.Machine

/-- A symbol as a returned byte: the nibble in the low half. -/
def symbolByte (n : Nibble) : Byte := n.setWidth 8

/-- `SYM(0)` (R180). -/
def execZero (s : State) : Out := .next (s.returns [symbolByte (sym false)])

/-- `SYM(1)` (R180). -/
def execOne (s : State) : Out := .next (s.returns [symbolByte (sym true)])

/-- The pad symbol (R190). -/
def execSilence (s : State) : Out := .next (s.returns [symbolByte sil])

/-- `cmdPacket(a, d, c)` (R194). -/
def execCmdPacket (a : NetAddr) (d : Device) (c : Action) (s : State) : Out := .next (s.returns (cmdPacket s.params a d c))

/-- `endPacket(a)` (R194). -/
def execEndPacket (a : NetAddr) (s : State) : Out := .next (s.returns (endPacket s.params a))

/-- `buildFrame(a, d, c)`, the pure function, with no gate (R220). -/
def execBuildFrame (a : NetAddr) (d : Device) (c : Action) (s : State) : Out := .next (s.returns (buildFrame s.params a d c))

end Sys2Proof.Machine
end

