-- ==== Sys2Proof/Machine/RegisterInterface.lean ====
section
/-! DEFINITION. The register interface's operations (R120 to R122) as instructions of their own: what a sequencer step does
when it uses one, and what the interface does when it is handed one (log entry 8). -/

namespace Sys2Proof.Machine

/-- `Wr(a, v)` (R120): no state but the trace. -/
def execWr (a : RegAddr) (v : Byte) (s : State) : Out :=
  runWrites [writeBytes s.params (a.setWidth 8) [v]] s s id

/-- `WrBurst(a, bs)` (R121), with at least one data byte. -/
def execWrBurst (a : RegAddr) (bs : List Byte) (s : State) : Out :=
  if bs.isEmpty then .refused .emptyBurst else runWrites [writeBytes s.params (a.setWidth 8) bs] s s id

/-- `Rd(a)` (R122): the byte received is the environment's and goes to the caller only. -/
def execRd (a : RegAddr) (s : State) : Out :=
  let out := readBytes (a.setWidth 8)
  match s.env with
  | [] => .next s
  | .ok b :: env' =>
    .next ((State.emit { s with env := env' } (.txn out 1 (outcomeOf out.length 1 (.ok b)))).returns [b])
  | .fail k :: env' =>
    .next (raiseErr .transportFailure s.core.seq
      (State.emit { s with env := env' } (.txn out 1 (outcomeOf out.length 1 (.fail k)))))

end Sys2Proof.Machine
end

