-- ==== Sys2Proof/Machine/Transmitter.lean ====
section
/-! DEFINITION. The three transmit steps (R232 to R234). -/

namespace Sys2Proof.Machine

/-- Step 12: write the payload length only if the cache does not hold it (R232). -/
def execTPayload (s : State) : Out :=
  if s.core.plenCache = some payloadLen then .next (advance .tMode s)
  else runWrites [writeBytes s.params s.params.regPayloadLength [payloadLen]] s s
    (fun t => t.withCore ((t.core.setPlen (some payloadLen)).setSeq .tMode))

/-- Step 13: write mode TX+OOK once in a session (R233). -/
def execTMode (s : State) : Out :=
  if s.core.txModeSet then .next (advance .tFifo s)
  else runWrites [writeBytes s.params s.params.regOpmode [s.params.modeTxOok]] s s
    (fun t => t.withCore (((t.core.setTxMode true).setShadow .txOok).setSeq .tFifo))

/-- The end of a burst of `n` bytes: advance the counters, and finish when the whole frame is handed over (R234). -/
def afterBurst (n : Nat) (s : State) : State :=
  s.withCore ((s.core.setFifo (s.core.fifoPos + n) (s.core.chunkIdx + 1)).setSeq
    (if s.core.fifoPos + n = frameLen then .idleReady else .tFifo))

/-- Step 14: one FIFO burst (R234). -/
def execTFifo (s : State) : Out :=
  match s.params.fifoChunks[s.core.chunkIdx]? with
  | none => .fault .noFifoChunk
  | some n =>
    match fbSlice s s.core.fifoPos n with
    | none => .fault .frameIndexOutside
    | some bs => runWrites [writeBytes s.params s.params.regFifo bs] s s (afterBurst n)

end Sys2Proof.Machine
end

