-- ==== Sys2Proof/Machine/Dispatch.lean ====
section
/-! DEFINITION. The dispatch: one arm for each constructor of `Instr`. -/

namespace Sys2Proof.Machine

def exec (i : Instr) (s : State) : Host.Outcome State Fault Refusal :=
  match i with
  -- host commands
  | .configure d pwr freq => Sys2Proof.Machine.execConfigure d pwr freq s
  | .transmit addr dev act => Sys2Proof.Machine.execTransmit addr dev act s
  | .buildFrameCmd addr dev act => Sys2Proof.Machine.execBuildFrameCmd addr dev act s
  | .configureDefault => Sys2Proof.Machine.execConfigureDefault s
  | .on addr dev => Sys2Proof.Machine.execOn addr dev s
  | .off addr dev => Sys2Proof.Machine.execOff addr dev s
  | .illegal w => Sys2Proof.Machine.execIllegal w s
  -- configure steps
  | .cReset => Sys2Proof.Machine.execCReset s
  | .cSleep => Sys2Proof.Machine.execCSleep s
  | .cBitrate => Sys2Proof.Machine.execCBitrate s
  | .cFreq => Sys2Proof.Machine.execCFreq s
  | .cPower => Sys2Proof.Machine.execCPower s
  | .cStandby => Sys2Proof.Machine.execCStandby s
  | .cPreamble => Sys2Proof.Machine.execCPreamble s
  | .cPacket => Sys2Proof.Machine.execCPacket s
  | .cPayload => Sys2Proof.Machine.execCPayload s
  | .cShaping => Sys2Proof.Machine.execCShaping s
  -- transmit steps
  | .tPayload => Sys2Proof.Machine.execTPayload s
  | .tMode => Sys2Proof.Machine.execTMode s
  | .tFifo => Sys2Proof.Machine.execTFifo s
  -- register interface
  | .wr a v => Sys2Proof.Machine.execWr a v s
  | .wrBurst a bs => Sys2Proof.Machine.execWrBurst a bs s
  | .rd a => Sys2Proof.Machine.execRd a s
  -- line codec and framer
  | .zero => Sys2Proof.Machine.execZero s
  | .one => Sys2Proof.Machine.execOne s
  | .silence => Sys2Proof.Machine.execSilence s
  | .cmdPacket addr dev act => Sys2Proof.Machine.execCmdPacket addr dev act s
  | .endPacket addr => Sys2Proof.Machine.execEndPacket addr s
  | .buildFrame addr dev act => Sys2Proof.Machine.execBuildFrame addr dev act s

end Sys2Proof.Machine
end

