-- ==== Sys2Proof/WellFormed.lean ====
section
/-! DEFINITION. Well-formed instructions: those that some encoding of the spec stands for. -/

namespace Sys2Proof

/-- The word matches the CONFIGURE, TRANSMIT or BUILD_FRAME row by the table's own match and mask (R82, R83, R85). -/
def matchesRow (w : CmdWord) : Bool :=
  (w &&& 0xFFFFFE0000000000 == 0x0100000000000000) ||
  (w &&& 0xFFFFFFFFFF000000 == 0x0200000000000000) ||
  (w &&& 0xFFFFFFFFFF000000 == 0x0300000000000000)

/-- `illegal` stands for a word that matches no row (R85); a burst carries at least one data byte (R90, R121). Every other
operand is in range by its type. -/
def wellFormed : Instr → Bool
  | .illegal w => !matchesRow w
  | .wrBurst _ bs => !bs.isEmpty
  | .configure _ _ _ | .transmit _ _ _ | .buildFrameCmd _ _ _ | .configureDefault | .on _ _ | .off _ _ => true
  | .cReset | .cSleep | .cBitrate | .cFreq | .cPower | .cStandby | .cPreamble | .cPacket | .cPayload | .cShaping => true
  | .tPayload | .tMode | .tFifo | .wr _ _ | .rd _ | .zero | .one | .silence => true
  | .cmdPacket _ _ _ | .endPacket _ | .buildFrame _ _ _ => true

end Sys2Proof
end

