-- ==== Sys2Proof/Decode.lean ====
section
/-! DEFINITION. The decoder, total on every encoded form and rejecting by name; the encoder; the opcode table's numbering of
words; and the assembler's commands (R80 to R91, R95 to R97). -/

namespace Sys2Proof

/-- Why bits are no instruction. -/
inductive DecodeReject where
  /-- The sequencer code of an idle state, which performs no step (R21). -/
  | idleCode
  /-- The sequencer code 15, which no rule enters (R21). -/
  | reservedCode
  /-- A transaction of fewer than two bytes (R90, R91). -/
  | shortTransaction
  /-- A first byte with bit 7 clear that is not followed by exactly the dummy byte 0x00 (R90). -/
  | readFormat
  /-- A nibble the encoder never produces (R93). -/
  | notASymbol
  /-- Bytes that are no packet of the default line-code tables (R96). -/
  | notAPacket
  /-- Bytes that are no frame of the default line-code tables (R97). -/
  | notAFrame
  deriving DecidableEq, Repr

/-- What the decoder answers. -/
inductive Decoded where
  | instr (i : Instr)
  | rejected (r : DecodeReject)
  deriving DecidableEq, Repr

/-! ## Decoding -/

/-- The host command word's decoder, total on all 2^64 words (R86). An out-of-range operand is kept, and INVALID_PARAMETER is
raised by the command's acceptance (R230). -/
def decodeCmd (w : CmdWord) : Instr :=
  if w.extractLsb' 56 8 = 0x01 then
    if w.extractLsb' 41 15 ≠ 0 then .illegal w
    else .configure (w.getLsbD 40) (w.extractLsb' 32 8) (w.extractLsb' 0 32)
  else if w.extractLsb' 56 8 = 0x02 then
    if w.extractLsb' 24 32 ≠ 0 then .illegal w
    else .transmit (w.extractLsb' 0 8) (w.extractLsb' 8 8) (w.extractLsb' 16 8)
  else if w.extractLsb' 56 8 = 0x03 then
    if w.extractLsb' 24 32 ≠ 0 then .illegal w
    else .buildFrameCmd (w.extractLsb' 0 8) (w.extractLsb' 8 8) (w.extractLsb' 16 8)
  else .illegal w

/-- The step a sequencer code performs (R21). -/
def decodeStep (c : BitVec 4) : Decoded :=
  match c.toNat with
  | 1 => .instr .cReset
  | 2 => .instr .cSleep
  | 3 => .instr .cBitrate
  | 4 => .instr .cFreq
  | 5 => .instr .cPower
  | 6 => .instr .cStandby
  | 7 => .instr .cPreamble
  | 8 => .instr .cPacket
  | 9 => .instr .cPayload
  | 10 => .instr .cShaping
  | 12 => .instr .tPayload
  | 13 => .instr .tMode
  | 14 => .instr .tFifo
  | 15 => .rejected .reservedCode
  | _ => .rejected .idleCode

/-- A transaction told by its first byte's bit 7 and its length (R90, R91). -/
def decodeTxn : List Byte → Decoded
  | b :: v :: rest =>
    if b.getLsbD 7 then
      .instr (if rest.isEmpty then .wr (b.extractLsb' 0 7) v else .wrBurst (b.extractLsb' 0 7) (v :: rest))
    else if v = 0 && rest.isEmpty then .instr (.rd (b.extractLsb' 0 7))
    else .rejected .readFormat
  | _ => .rejected .shortTransaction

/-- A symbol (R92, R93). -/
def decodeSymbol (n : Nibble) : Decoded :=
  if n = 0x8 then .instr .zero else if n = 0xE then .instr .one else if n = 0x0 then .instr .silence
  else .rejected .notASymbol

/-- The address in a packet's first five bytes: byte i is 0xEE when address bit 4 - i is 1 (R96). -/
def packetAddr (bs : List Byte) : NetAddr :=
  BitVec.ofNat 5 ((bs.take 5).foldl (fun acc b => 2 * acc + (if b = 0xEE then 1 else 0)) 0)

/-- The device and action choices (R83). -/
def deviceActions : List (Device × Action) :=
  [(.A, .off), (.A, .on), (.B, .off), (.B, .on), (.C, .off), (.C, .on), (.D, .off), (.D, .on), (.E, .off), (.E, .on)]

/-- The operands of the command packet that starts a byte string, by the default tables (R96). -/
def packetOperands (bs : List Byte) : Option (Device × Action) :=
  deviceActions.find? fun dc =>
    Machine.cmdPacket Machine.defaultParams (packetAddr bs) dc.1 dc.2 = bs.take 13

/-- A packet of the default tables, told by encoding it again (log entry 18). -/
def decodePacket (bs : List Byte) : Decoded :=
  if bs.length ≠ 13 then .rejected .notAPacket
  else if bs = Machine.endPacket Machine.defaultParams (packetAddr bs) then .instr (.endPacket (packetAddr bs))
  else match packetOperands bs with
    | some (d, c) => .instr (.cmdPacket (packetAddr bs) d c)
    | none => .rejected .notAPacket

/-- A frame of the default tables, told by encoding it again (log entry 18). -/
def decodeFrame (bs : List Byte) : Decoded :=
  match packetOperands bs with
  | some (d, c) =>
    if bs = Machine.buildFrame Machine.defaultParams (packetAddr bs) d c then .instr (.buildFrame (packetAddr bs) d c)
    else .rejected .notAFrame
  | none => .rejected .notAFrame

/-- An operation presented to a leaf block. -/
def decodeUnit : UnitReq → Decoded
  | .txn bs => decodeTxn bs
  | .symbol n => decodeSymbol n
  | .packet bs => decodePacket bs
  | .frame bs => decodeFrame bs

/-- The decoder. -/
def decode : Code → Decoded
  | .cmd w => .instr (decodeCmd w)
  | .step c => decodeStep c
  | .unit u => decodeUnit u

/-! ## Encoding -/

/-- The word of CONFIGURE (R82). -/
def encodeConfigure (d : Bool) (pwr : BitVec 8) (freq : BitVec 32) : CmdWord :=
  (0x01 : BitVec 8) ++ (0 : BitVec 15) ++ BitVec.ofBool d ++ pwr ++ freq

/-- The word of TRANSMIT or BUILD_FRAME (R83). -/
def encodeTx (opc addr dev act : Byte) : CmdWord :=
  opc ++ (0 : BitVec 32) ++ act ++ dev ++ addr

/-- The address byte of a transaction: the write indicator in bit 7 (R90). -/
def addrByte (write : Bool) (a : RegAddr) : Byte := BitVec.ofBool write ++ a

/-- The encoding of an instruction. -/
def encode : Instr → Code
  | .configure d pwr freq => .cmd (encodeConfigure d pwr freq)
  | .transmit addr dev act => .cmd (encodeTx 0x02 addr dev act)
  | .buildFrameCmd addr dev act => .cmd (encodeTx 0x03 addr dev act)
  | .configureDefault => .cmd 0x0100010000000000
  | .on addr dev => .cmd (encodeTx 0x02 addr dev 0x01)
  | .off addr dev => .cmd (encodeTx 0x02 addr dev 0x00)
  | .illegal w => .cmd w
  | .cReset => .step 1
  | .cSleep => .step 2
  | .cBitrate => .step 3
  | .cFreq => .step 4
  | .cPower => .step 5
  | .cStandby => .step 6
  | .cPreamble => .step 7
  | .cPacket => .step 8
  | .cPayload => .step 9
  | .cShaping => .step 10
  | .tPayload => .step 12
  | .tMode => .step 13
  | .tFifo => .step 14
  | .wr a v => .unit (.txn [addrByte true a, v])
  | .wrBurst a bs => .unit (.txn (addrByte true a :: bs))
  | .rd a => .unit (.txn [addrByte false a, 0x00])
  | .zero => .unit (.symbol 0x8)
  | .one => .unit (.symbol 0xE)
  | .silence => .unit (.symbol 0x0)
  | .cmdPacket a d c => .unit (.packet (Machine.cmdPacket Machine.defaultParams a d c))
  | .endPacket a => .unit (.packet (Machine.endPacket Machine.defaultParams a))
  | .buildFrame a d c => .unit (.frame (Machine.buildFrame Machine.defaultParams a d c))

/-- A burst, or the single write that a burst of one byte is (R90, R91). -/
def singleWrite (a : RegAddr) : List Byte → Instr
  | [v] => .wr a v
  | bs => .wrBurst a bs

/-- The instruction an instruction's encoding stands for: a pseudo-instruction is its expansion (R88), and a burst of one
byte is the same two bytes as a single write (R90, R91). Every other instruction is itself. -/
def expand : Instr → Instr
  | .configureDefault => .configure true 0 0
  | .on addr dev => .transmit addr dev 0x01
  | .off addr dev => .transmit addr dev 0x00
  | .wrBurst a bs => singleWrite a bs
  | .configure d pwr freq => .configure d pwr freq
  | .transmit addr dev act => .transmit addr dev act
  | .buildFrameCmd addr dev act => .buildFrameCmd addr dev act
  | .illegal w => .illegal w
  | .cReset => .cReset
  | .cSleep => .cSleep
  | .cBitrate => .cBitrate
  | .cFreq => .cFreq
  | .cPower => .cPower
  | .cStandby => .cStandby
  | .cPreamble => .cPreamble
  | .cPacket => .cPacket
  | .cPayload => .cPayload
  | .cShaping => .cShaping
  | .tPayload => .tPayload
  | .tMode => .tMode
  | .tFifo => .tFifo
  | .wr a v => .wr a v
  | .rd a => .rd a
  | .zero => .zero
  | .one => .one
  | .silence => .silence
  | .cmdPacket a d c => .cmdPacket a d c
  | .endPacket a => .endPacket a
  | .buildFrame a d c => .buildFrame a d c

/-! ## The opcode table's numbering -/

/-- The low `8 * n` bits of a number as bytes, the most significant first: the order the table writes a row's bits in. -/
def bytesOf (n w : Nat) : List Byte := (List.range n).map fun i => BitVec.ofNat 8 (w >>> (8 * (n - 1 - i)))

/-- The encoded form that `nbits` bits of a table row stand for (log entries 10, 15). -/
def ofTableWord (nbits w : Nat) : Option Code :=
  if nbits = 64 then some (.cmd (BitVec.ofNat 64 w))
  else if nbits = 4 then
    (match decodeSymbol (BitVec.ofNat 4 w) with
      | .instr _ => some (.unit (.symbol (BitVec.ofNat 4 w)))
      | .rejected _ => some (.step (BitVec.ofNat 4 w)))
  else if nbits = 8 then
    (if 16 ≤ w % 256 then none
      else match decodeStep (BitVec.ofNat 4 w) with
        | .instr _ => some (.step (BitVec.ofNat 4 w))
        | .rejected _ => some (.unit (.symbol (BitVec.ofNat 4 w))))
  else if nbits % 8 ≠ 0 || nbits = 0 then none
  else if nbits = 104 then
    (match decodePacket (bytesOf 13 w) with
      | .instr _ => some (.unit (.packet (bytesOf 13 w)))
      | .rejected _ => some (.unit (.txn (bytesOf 13 w))))
  else if nbits = 1560 then
    (match decodeFrame (bytesOf 195 w) with
      | .instr _ => some (.unit (.frame (bytesOf 195 w)))
      | .rejected _ => some (.unit (.txn (bytesOf 195 w))))
  else some (.unit (.txn (bytesOf (nbits / 8) w)))

/-- The instruction the decoder reads from a table row's bits. -/
def decodeTableWord (nbits w : Nat) : Option Instr :=
  match ofTableWord nbits w with
  | none => none
  | some c => match decode c with
    | .instr i => some i
    | .rejected _ => none

/-! ## The assembler's commands (R87, R88) -/

/-- A command as the assembler reads it: numbers not yet range-checked. -/
inductive AsmCmd where
  | configure (freqHz : Nat) (powerDbm : Int)
  | transmit (addr : Nat) (dev : Device) (act : Action)
  | buildFrame (addr : Nat) (dev : Device) (act : Action)
  | configureDefault
  | on (addr : Nat) (dev : Device)
  | off (addr : Nat) (dev : Device)
  deriving DecidableEq, Repr

/-- The ACT field of an action (R83). -/
def actByte : Action → Byte
  | .off => 0x00
  | .on => 0x01

/-- The DEV field of a device (R83). -/
def devByte (d : Device) : Byte := BitVec.ofNat 8 (Machine.devPos d)

/-- The instruction of an assembler command, none when a number is out of the range R87 gives it. Addresses up to 255 are
taken, to test rejection. -/
def assemble : AsmCmd → Option Instr
  | .configure f p =>
    if f ≤ 4294967295 ∧ -128 ≤ p ∧ p ≤ 127 then some (.configure false (BitVec.ofInt 8 p) (BitVec.ofNat 32 f)) else none
  | .transmit a d c => if a ≤ 255 then some (.transmit (BitVec.ofNat 8 a) (devByte d) (actByte c)) else none
  | .buildFrame a d c => if a ≤ 255 then some (.buildFrameCmd (BitVec.ofNat 8 a) (devByte d) (actByte c)) else none
  | .configureDefault => some .configureDefault
  | .on a d => if a ≤ 255 then some (.on (BitVec.ofNat 8 a) (devByte d)) else none
  | .off a d => if a ≤ 255 then some (.off (BitVec.ofNat 8 a) (devByte d)) else none

/-- The letter of a device (R87). -/
def deviceText : Device → String
  | .A => "A" | .B => "B" | .C => "C" | .D => "D" | .E => "E"

/-- The word of an action (R87). -/
def actionText : Action → String
  | .on => "ON" | .off => "OFF"

/-- The assembler text of a command, numbers in decimal (R87, R88). -/
def AsmCmd.render : AsmCmd → String
  | .configure f p => "CONFIGURE " ++ toString f ++ ", " ++ toString p
  | .transmit a d c => "TRANSMIT " ++ toString a ++ ", " ++ deviceText d ++ ", " ++ actionText c
  | .buildFrame a d c => "BUILD_FRAME " ++ toString a ++ ", " ++ deviceText d ++ ", " ++ actionText c
  | .configureDefault => "CONFIGURE.DEFAULT"
  | .on a d => "ON " ++ toString a ++ ", " ++ deviceText d
  | .off a d => "OFF " ++ toString a ++ ", " ++ deviceText d

end Sys2Proof
end

