-- ==== Sys2Proof/Machine/Fetch.lean ====
section
/-! DEFINITION. What the next step runs: the agents' inputs and the sequencer, in place of a program counter (R16, R23, R62). -/

namespace Sys2Proof.Machine

/-- What a step finds to do. -/
inductive Fetched where
  /-- Nothing: the core is idle and no command is presented (R281). -/
  | idle
  /-- A register operation that the environment does not answer (R261). -/
  | wait
  /-- The sequencer holds its reserved code (R21). -/
  | reserved
  /-- The bits presented to a leaf block are no operation. -/
  | rejected (r : DecodeReject)
  /-- An instruction, and the state with what was fetched taken out of its input. -/
  | run (i : Instr) (s : State)
  deriving DecidableEq, Repr

/-- The register operations, which need an answer of the environment (R12). -/
def needsAnswer : Instr → Bool
  | .wr _ _ | .wrBurst _ _ | .rd _ => true
  | .configure _ _ _ | .transmit _ _ _ | .buildFrameCmd _ _ _ | .configureDefault | .on _ _ | .off _ _ | .illegal _ => false
  | .cReset | .cSleep | .cBitrate | .cFreq | .cPower | .cStandby | .cPreamble | .cPacket | .cPayload | .cShaping => false
  | .tPayload | .tMode | .tFifo | .zero | .one | .silence => false
  | .cmdPacket _ _ _ | .endPacket _ | .buildFrame _ _ _ => false

/-- The name of a rejection. -/
def rejectText : DecodeReject → String
  | .idleCode => "idleCode"
  | .reservedCode => "reservedCode"
  | .shortTransaction => "shortTransaction"
  | .readFormat => "readFormat"
  | .notASymbol => "notASymbol"
  | .notAPacket => "notAPacket"
  | .notAFrame => "notAFrame"

/-- A leaf operation (log entry 8). -/
def fetchUnit (u : UnitReq) (s : State) : Fetched :=
  match decodeUnit u with
  | .rejected r => .rejected r
  | .instr i => if needsAnswer i && s.env.isEmpty then .wait else .run i { s with unit := none }

/-- The host presents its next word, which acceptance consumes (R35, R62). -/
def fetchCommand (s : State) : Fetched :=
  match s.host with
  | [] => .idle
  | w :: ws => .run (decodeCmd w) { s with host := ws }

/-- A leaf operation if one is presented; else the step `seq` names (R23); else, when the core is idle, the host's next
command (R35). -/
def fetch (s : State) : Fetched :=
  match s.unit with
  | some u => fetchUnit u s
  | none =>
    match decodeStep (seqCode s.core.seq) with
    | .instr i => .run i s
    | .rejected .reservedCode => .reserved
    | .rejected _ => fetchCommand s

/-- The environment's answers that a fetched step may need: a step issues at most three writes (R152 to R157). -/
def readyAnswers : List Answer := [.ok 0, .ok 0, .ok 0]

/-- An idle state that keeps `cfgDone` (R22). -/
def idleOf (q : Seq) : Seq := if cfgDone q then .idleReady else .idleUnconf

/-- The state whose next step runs an encoded instruction (log entry 9). -/
def placeCode (s : State) : Code → State
  | .cmd w => { s with core := s.core.setSeq (idleOf s.core.seq), host := w :: s.host, unit := none, resetReq := false }
  | .step c => { s with core := s.core.setSeq (seqOfCode c), env := s.env ++ readyAnswers, unit := none, resetReq := false }
  | .unit u => { s with env := s.env ++ readyAnswers, unit := some u, resetReq := false }

end Sys2Proof.Machine
end

