-- ==== Sys2Proof/Machine/Step.lean ====
section
/-! DEFINITION. One step of the machine (D1: one core step is one sequencer state), and the placing of an instruction where
the next step finds it. -/

namespace Sys2Proof.Machine

/-- One step: a record that fails R8 is refused (U22); a pending core reset is taken between steps (R280); a reserved error
code faults (U5); then whatever is fetched runs. With nothing to run, or no answer to go on with, the state stays. -/
def step (s : State) : Host.Outcome State Fault Refusal :=
  if !paramsWf s.params then .refused .paramsIllFormed
  else if s.resetReq then .next (coreReset s)
  else if errReserved s.core.lastErr then .fault .reservedErrCode
  else
    match fetch s with
    | .idle => .next s
    | .wait => .next s
    | .reserved => .fault .reservedSeq
    | .rejected r => .refused (.unitRejected (rejectText r))
    | .run i t => exec i t

/-- The state whose next step runs the instruction of a table row's bits (log entry 9); unchanged where they are none. -/
def State.withFetchWord (s : State) (nbits w : Nat) : State :=
  match ofTableWord nbits w with
  | some c => placeCode s c
  | none => s

end Sys2Proof.Machine
end

