-- ==== Sys2Proof/Safety.lean ====
section
/-! DEFINITION. What a good state is (`Inv`), and the words the statements use about runs. -/

namespace Sys2Proof.Machine

/-- What the core knows of the session in each sequencer state: the mode it last wrote, the payload-length cache and the
TX-mode flag (R27 to R29, R151, R155, R158, R233). -/
def sessionOk (c : Core) : Prop :=
  match c.seq with
  | .idleUnconf | .cReset | .cSleep => c.shadowMode = .unknown ∧ c.plenCache = none ∧ c.txModeSet = false
  | .cBitrate | .cFreq | .cPower | .cStandby => c.shadowMode = .sleep ∧ c.plenCache = none ∧ c.txModeSet = false
  | .cPreamble | .cPacket | .cPayload => c.shadowMode = .standby ∧ c.plenCache = none ∧ c.txModeSet = false
  | .cShaping => c.shadowMode = .standby ∧ c.plenCache = some payloadLen ∧ c.txModeSet = false
  | .idleReady | .tPayload | .tMode =>
    c.plenCache = some payloadLen ∧
      ((c.shadowMode = .standby ∧ c.txModeSet = false) ∨ (c.shadowMode = .txOok ∧ c.txModeSet = true))
  | .tFifo => c.shadowMode = .txOok ∧ c.plenCache = some payloadLen ∧ c.txModeSet = true
  | .reserved15 => False

/-- The codes of the configure steps (R21). -/
def configuring : Seq → Bool
  | .cReset | .cSleep | .cBitrate | .cFreq | .cPower | .cStandby | .cPreamble | .cPacket | .cPayload | .cShaping => true
  | .idleUnconf | .idleReady | .tPayload | .tMode | .tFifo | .reserved15 => false

/-- A TRANSMIT is in flight: `cur` is that command, the buffer holds exactly its frame, and bytes are still to be sent
(R231, R234). -/
def transmitting (p : Params) (c : Core) : Prop :=
  match c.cur with
  | .transmit a d k => fbBytes c.fb = buildFrame p a d k ∧ c.fifoPos < frameLen
  | .configure | .buildFrame _ _ _ => False

/-- The invariant of the machine. -/
structure Inv (s : State) : Prop where
  /-- The configuration passes R8. -/
  params : paramsWf s.params = true
  /-- The frame buffer has its canonical form and no index outside 0 to 194 (R60). -/
  fb : Memory.wf s.core.fb = true
  /-- No reserved sequencer code (R21) and a session that fits the sequencer state; the mode is SLEEP in steps 3 and 4, so
  the precondition of R146 holds. -/
  session : sessionOk s.core
  /-- No reserved error code (R250). -/
  err : errReserved s.core.lastErr = false
  /-- `errStep` is 0 when there is no error (R24). -/
  errStep : s.core.lastErr = 0 → s.core.errStep = .idleUnconf
  /-- While a command is in flight there is neither an error nor a result (R230). -/
  inFlight : busy s.core.seq = true → s.core.lastErr = 0 ∧ s.core.result = none
  /-- A result has 195 bytes (R32). -/
  result : ∀ r, s.core.result = some r → r.length = frameLen
  /-- The bytes handed over are whole chunks (R234). -/
  fifo : s.core.fifoPos = (s.params.fifoChunks.take s.core.chunkIdx).sum ∧
    s.core.chunkIdx ≤ s.params.fifoChunks.length
  /-- The configure steps run a CONFIGURE (R33). -/
  cur : configuring s.core.seq = true → s.core.cur = .configure
  /-- The transmit steps have a frame to send (R231). -/
  frame : s.core.seq = .tPayload ∨ s.core.seq = .tMode ∨ s.core.seq = .tFifo → transmitting s.params s.core
  /-- The latched frequency fits 24 bits (R140, R141). -/
  freq : freqValid s.core.freqHz = true

/-- Answers that all succeed, one for each byte the environment would return. -/
def allOk (bytes : List Byte) : List Answer := bytes.map .ok

/-- The event of a write transaction that ended `Ok` (R12). -/
def okWrite (out : List Byte) : Event := .txn out 0 (.ok [])

/-- An event that reads from the transceiver. -/
def Event.reads : Event → Bool
  | .txn _ nin _ => decide (nin ≠ 0)
  | .reset _ | .delay _ => false

/-- The core is idle (R21). -/
def idle (c : Core) : Prop := c.seq = .idleUnconf ∨ c.seq = .idleReady

/-- The step can look for something to run: the configuration passes R8, no reset is pending, the error code is one of
R250. -/
def live (s : State) : Prop :=
  paramsWf s.params = true ∧ s.resetReq = false ∧ errReserved s.core.lastErr = false

/-- What acceptance leaves of the record before the command's own part (R230). -/
def accepted (c : Core) : Core := { c with result := none, lastErr := 0, errStep := .idleUnconf }

/-- The record after a command refused at acceptance with an error code (R252). -/
def refusedWith (c : Core) (e : BitVec 3) : Core := { c with result := none, lastErr := e, errStep := c.seq }

/-- The record after an execution-time error with an error code (R254). -/
def sessionLost (c : Core) (e : BitVec 3) : Core :=
  { c with lastErr := e, errStep := c.seq, seq := .idleUnconf, shadowMode := .unknown, plenCache := none, txModeSet := false }

/-- The instruction issues exactly these write transactions, in this order. When all are answered `Ok` the record becomes
`finished` and nothing else changes. When the first failure is that of one of them, the earlier ones and the failed one are
in the trace, no later one is, and the record is `started` after the TransportFailure exit (R124, R148, R254, R256). -/
def WritesInOrder (i : Instr) (s : State) (outs : List (List Byte)) (started finished : Core) : Prop :=
  (∀ bs e, bs.length = outs.length → s.env = allOk bs ++ e →
    exec i s = .next { s with env := e, trace := s.trace ++ outs.map okWrite, core := finished }) ∧
  (∀ bs out rest k e, outs.drop bs.length = out :: rest → s.env = allOk bs ++ .fail k :: e → k ≤ out.length →
    exec i s = .next { s with env := e, core := sessionLost started 1,
                              trace := s.trace ++ (outs.take bs.length).map okWrite ++ [.txn out 0 (.fail k)] })

/-- A host command (R81, R88). -/
def isHostCommand : Instr → Bool
  | .configure _ _ _ | .transmit _ _ _ | .buildFrameCmd _ _ _ | .configureDefault | .on _ _ | .off _ _ | .illegal _ => true
  | .cReset | .cSleep | .cBitrate | .cFreq | .cPower | .cStandby | .cPreamble | .cPacket | .cPayload | .cShaping => false
  | .tPayload | .tMode | .tFifo | .wr _ _ | .wrBurst _ _ | .rd _ | .zero | .one | .silence => false
  | .cmdPacket _ _ _ | .endPacket _ | .buildFrame _ _ _ => false

/-- The codes a step may move the sequencer to: the next code of R21, the error exit to 0, the loop of T_FIFO, the starts of
the commands, and the code it has (a step that waits, a refused command, BUILD_FRAME). -/
def seqMoves : Seq → List Seq
  | .idleUnconf => [.idleUnconf, .cReset]
  | .cReset => [.cSleep]
  | .cSleep => [.cBitrate, .idleUnconf, .cSleep]
  | .cBitrate => [.cFreq, .idleUnconf, .cBitrate]
  | .cFreq => [.cPower, .idleUnconf, .cFreq]
  | .cPower => [.cStandby, .idleUnconf, .cPower]
  | .cStandby => [.cPreamble, .idleUnconf, .cStandby]
  | .cPreamble => [.cPacket, .idleUnconf, .cPreamble]
  | .cPacket => [.cPayload, .idleUnconf, .cPacket]
  | .cPayload => [.cShaping, .idleUnconf, .cPayload]
  | .cShaping => [.idleReady, .idleUnconf, .cShaping]
  | .idleReady => [.idleReady, .cReset, .tPayload]
  | .tPayload => [.tMode, .idleUnconf, .tPayload]
  | .tMode => [.tFifo, .idleUnconf, .tMode]
  | .tFifo => [.tFifo, .idleReady, .idleUnconf]
  | .reserved15 => []

/-- Two states that agree on everything but the fields R40 leaves unspecified at reset. The frame buffers may differ as long
as no TRANSMIT is in flight. -/
def sameButUnspecified (s t : State) : Prop :=
  Memory.wf s.core.fb = true ∧ Memory.wf t.core.fb = true ∧
  (s.core.seq = .tPayload ∨ s.core.seq = .tMode ∨ s.core.seq = .tFifo → fbBytes s.core.fb = fbBytes t.core.fb) ∧
  { s with core := { s.core with frf := 0, paDac := 0, paConfig := 0, cur := .configure, fb := [] } } =
  { t with core := { t.core with frf := 0, paDac := 0, paConfig := 0, cur := .configure, fb := [] } }

end Sys2Proof.Machine
end

