-- ==== Sys2Proof/Certificates/Slice0/Obligations.lean ====
section
/-! DEFINITION. The statements for the provers, from the numbered rules of spec/. -/

open Sys2Proof Sys2Proof.Machine

/-! ## Reset, status and the whole machine -/

/-- R40: on reset every field whose value the rule states takes it, and the trace is empty. The reset state holds
the same values. -/
def Obligations.ResetGivesTheStatedValues : Prop :=
  ∀ s : State,
    (∀ c, c = (coreReset s).core ∨ c = State.reset.core →
      c.seq = .idleUnconf ∧ c.lastErr = 0 ∧ c.errStep = .idleUnconf ∧ c.freqHz = 433790000 ∧ c.powerReq = 5 ∧
      c.shadowMode = .unknown ∧ c.plenCache = none ∧ c.txModeSet = false ∧ c.fifoPos = 0 ∧ c.chunkIdx = 0 ∧
      c.result = none) ∧
    (coreReset s).trace = [] ∧ State.reset.trace = []

/-- A pending core reset is taken before anything else runs (the model's input `resetReq`, log entry 11). -/
def Obligations.PendingResetIsTaken : Prop :=
  ∀ s : State, paramsWf s.params = true → s.resetReq = true →
    ∃ t, step s = .next t ∧ t.core = State.reset.core ∧ t.trace = [] ∧ t.resetReq = false ∧ t.params = s.params ∧
      t.host = s.host ∧ t.env = s.env ∧ t.unit = s.unit ∧ t.unitOut = s.unitOut

/-- The reset state meets the machine's invariant. -/
def Obligations.ResetStateMeetsTheInvariant : Prop := Inv State.reset

/-- Every step keeps the invariant. -/
def Obligations.EveryStepKeepsTheInvariant : Prop :=
  ∀ s t : State, Inv s → step s = .next t → Inv t

/-- From a state with the invariant the machine never stops, unless bits that are no operation are presented to a leaf
block. -/
def Obligations.NoStepStopsFromTheInvariant : Prop :=
  ∀ s : State, Inv s → (∀ u, s.unit = some u → ∃ i, decode (.unit u) = .instr i) → ∃ t, step s = .next t

/-- R34: every field of STATUS, and the reserved bits read 0. R22: the predicates by the code of `seq`. -/
def Obligations.StatusReadsEveryField : Prop :=
  ∀ s : State,
    (status s).extractLsb' 0 4 = seqCode s.core.seq ∧
    (status s).getLsbD 4 = decide ((seqCode s.core.seq).toNat ∈ [11, 12, 13, 14]) ∧
    (status s).getLsbD 5 = decide ((seqCode s.core.seq).toNat ∈ [1, 2, 3, 4, 5, 6, 7, 8, 9, 10, 12, 13, 14]) ∧
    (status s).getLsbD 6 = s.core.txModeSet ∧
    (status s).getLsbD 7 = decide (s.core.plenCache ≠ none) ∧
    (status s).extractLsb' 8 3 = s.core.lastErr ∧
    (status s).getLsbD 11 = false ∧
    (status s).extractLsb' 12 4 = seqCode s.core.errStep ∧
    (status s).extractLsb' 16 2 = modeCode s.core.shadowMode ∧
    (status s).extractLsb' 18 14 = 0

/-- The sequencer moves only as R21 and R23 allow, whatever the host and the environment do. -/
def Obligations.SequencerMovesOnlyAsTabled : Prop :=
  ∀ s t : State, s.unit = none → s.resetReq = false → step s = .next t → t.core.seq ∈ seqMoves s.core.seq

/-- The event trace is appended to and never rewritten, and no step writes the configuration record. -/
def Obligations.TraceGrowsAndParamsStay : Prop :=
  ∀ s t : State, step s = .next t →
    t.params = s.params ∧ (s.resetReq = false → ∃ es, t.trace = s.trace ++ es)

/-- The values R40 leaves unspecified (and the model names, log entries 3 and 4) are never read: two states that differ in
them only stay so, and stop alike. -/
def Obligations.UnspecifiedResetValuesAreNeverRead : Prop :=
  ∀ s t : State, sameButUnspecified s t →
    (∀ s', step s = .next s' → ∃ t', step t = .next t' ∧ sameButUnspecified s' t') ∧
    (∀ f, step s = .fault f → step t = .fault f) ∧ (∀ r, step s = .refused r → step t = .refused r)

/-- A step runs the decoded instruction: the host's word in an idle state, the step `seq` names, or the operation presented to
a leaf block; an idle core with no word stays as it is. -/
def Obligations.StepRunsTheFetchedInstruction : Prop :=
  ∀ s : State, live s →
    (∀ w ws, s.unit = none → idle s.core → s.host = w :: ws → step s = exec (decodeCmd w) { s with host := ws }) ∧
    (s.unit = none → idle s.core → s.host = [] → step s = .next s) ∧
    (∀ i, s.unit = none → decode (.step (seqCode s.core.seq)) = .instr i → step s = exec i s) ∧
    (∀ u i, s.unit = some u → decode (.unit u) = .instr i → (needsAnswer i = true → s.env ≠ []) →
      step s = exec i { s with unit := none })

/-- R8: a configuration record that fails the check is refused, whatever else the state holds. (Its clause on the line-code
table entries holds by their type.) -/
def Obligations.IllFormedParamsAreRefused : Prop :=
  ∀ s : State,
    ((∃ a ∈ regAddrs s.params, 0x80 ≤ a.toNat ∨ (s.params.writeBit = 0x80 ∧ s.params.writeBit.toNat ≤ a.toNat)) ∨
     s.params.regFrfMsb = s.params.regFrfMid ∨ s.params.regFrfMsb = s.params.regFrfLsb ∨
     s.params.regFrfMid = s.params.regFrfLsb ∨ s.params.regBitrateMsb = s.params.regBitrateLsb ∨
     s.params.regPreambleMsb = s.params.regPreambleLsb ∨
     0 ∈ s.params.fifoChunks ∨ s.params.fifoChunks.sum ≠ 195 ∨ s.params.groupSel = s.params.groupFill) →
    step s = .refused .paramsIllFormed

/-- The reserved sequencer code and the reserved error codes fault. -/
def Obligations.ReservedCodesFault : Prop :=
  ∀ s : State, paramsWf s.params = true → s.resetReq = false →
    (s.core.lastErr = 6 ∨ s.core.lastErr = 7 → step s = .fault .reservedErrCode) ∧
    (s.core.lastErr.toNat ≤ 5 → s.unit = none → s.core.seq = .reserved15 → step s = .fault .reservedSeq)

/-! ## Encodings -/

/-- Decoding the encoding of a well-formed instruction gives it back, a pseudo-instruction as its expansion and a burst of
one byte as the single write it is. -/
def Obligations.DecodeOfEncodeAgrees : Prop :=
  ∀ i : Instr, wellFormed i = true → decode (encode i) = .instr (expand i)

/-- Every host command word has one meaning: encoding what it decodes to gives the word back, and that instruction is
well-formed. -/
def Obligations.EncodeOfDecodedCommandAgrees : Prop :=
  ∀ w : CmdWord, encode (decodeCmd w) = .cmd w ∧ wellFormed (decodeCmd w) = true ∧ expand (decodeCmd w) = decodeCmd w

/-- R89: the command word examples. -/
def Obligations.ExampleCommandWordsDecode : Prop :=
  (assemble (.configure 433790000 5)).map encode = some (.cmd 0x0100000519DB1C30) ∧
  decodeCmd 0x0100000519DB1C30 = .configure false 5 433790000 ∧
  (assemble (.configure 433920000 23)).map encode = some (.cmd 0x0100001719DD1800) ∧
  decodeCmd 0x0100001719DD1800 = .configure false 23 433920000 ∧
  (assemble (.transmit 31 .A .on)).map encode = some (.cmd 0x020000000001001F) ∧
  decodeCmd 0x020000000001001F = .transmit 31 0 1 ∧
  (assemble (.transmit 5 .C .off)).map encode = some (.cmd 0x0200000000000205) ∧
  decodeCmd 0x0200000000000205 = .transmit 5 2 0 ∧
  (assemble (.buildFrame 0 .E .off)).map encode = some (.cmd 0x0300000000000400) ∧
  decodeCmd 0x0300000000000400 = .buildFrameCmd 0 4 0

/-- R88: the pseudo-instructions and their expansions. -/
def Obligations.PseudoInstructionsAreTheirExpansions : Prop :=
  encode .configureDefault = .cmd 0x0100010000000000 ∧
  decodeCmd 0x0100010000000000 = .configure true 0 0 ∧
  (∀ s, exec .configureDefault s = exec (.configure false 5 433790000) s) ∧
  (∀ addr dev, encode (.on addr dev) = encode (.transmit addr dev 1) ∧ encode (.off addr dev) = encode (.transmit addr dev 0)) ∧
  (∀ addr dev s, exec (.on addr dev) s = exec (.transmit addr dev 1) s ∧
    exec (.off addr dev) s = exec (.transmit addr dev 0) s)

/-- R81, R85: a reserved opcode or a set reserved bit, whatever the other fields hold, is ILLEGAL_COMMAND with no other
effect. -/
def Obligations.ReservedEncodingsAreIllegal : Prop :=
  ∀ (s : State) (w : CmdWord), idle s.core →
    (((w.extractLsb' 56 8).toNat = 0 ∨ 4 ≤ (w.extractLsb' 56 8).toNat) ∨
     ((w.extractLsb' 56 8).toNat = 1 ∧ w.extractLsb' 41 15 ≠ 0) ∨
     (((w.extractLsb' 56 8).toNat = 2 ∨ (w.extractLsb' 56 8).toNat = 3) ∧ w.extractLsb' 24 32 ≠ 0)) →
    decodeCmd w = .illegal w ∧ exec (.illegal w) s = .next { s with core := refusedWith s.core 4 }

/-! ## Host commands -/

/-- R140: CONFIGURE latches its operands, clears the session and starts the sequence; a frequency whose word exceeds 24 bits
is refused with INVALID_PARAMETER. R140 does not list `cur`; AcceptedCommandIsTheCurrentOne states it. -/
def Obligations.ConfigureStartsTheSequence : Prop :=
  ∀ (s : State) (i : Instr) (f : BitVec 32) (p : BitVec 8),
    (i = .configure false p f ∨
     ((∃ p' f', i = .configure true p' f') ∨ i = .configureDefault) ∧ f = 433790000 ∧ p = 5) →
    (idle s.core → (f.toNat * 16384 + 500000) / 1000000 ≤ 0xFFFFFF →
      ∃ u, exec i s = .next { s with core := { accepted s.core with
        cur := u, freqHz := f, powerReq := p, shadowMode := .unknown, plenCache := none, txModeSet := false, seq := .cReset } }) ∧
    (idle s.core → 0xFFFFFF < (f.toNat * 16384 + 500000) / 1000000 →
      exec i s = .next { s with core := refusedWith s.core 2 })

/-- R141: a frequency is valid exactly up to 1,023,999,969 Hz, and a larger one is refused at acceptance. -/
def Obligations.FrequencyRangeIsChecked : Prop :=
  ∀ f : BitVec 32,
    (freqValid f = true ↔ f.toNat ≤ 1023999969) ∧
    (∀ (s : State) (p : BitVec 8), idle s.core →
      (f.toNat ≤ 1023999969 → ∃ t, exec (.configure false p f) s = .next t ∧ t.core.seq = .cReset ∧ t.core.freqHz = f) ∧
      (1023999969 < f.toNat → exec (.configure false p f) s = .next { s with core := refusedWith s.core 2 }))

/-- R231: TRANSMIT refuses invalid operands, then a core that is not configured; else it loads the whole frame into the
buffer, clears the counters and starts the transmit steps. ON and OFF do the same. -/
def Obligations.TransmitStartsTheSteps : Prop :=
  ∀ s : State, Memory.wf s.core.fb = true →
    (∀ addr dev act, idle s.core → (31 < addr.toNat ∨ 4 < dev.toNat ∨ 1 < act.toNat) →
      exec (.transmit addr dev act) s = .next { s with core := refusedWith s.core 2 }) ∧
    (∀ addr dev, idle s.core → (31 < addr.toNat ∨ 4 < dev.toNat) →
      exec (.on addr dev) s = .next { s with core := refusedWith s.core 2 } ∧
      exec (.off addr dev) s = .next { s with core := refusedWith s.core 2 }) ∧
    (∀ (a : NetAddr) (d : Device) (c : Action) (i : Instr),
      (i = .transmit (a.setWidth 8) (devByte d) (actByte c) ∨ (i = .on (a.setWidth 8) (devByte d) ∧ c = .on) ∨
       (i = .off (a.setWidth 8) (devByte d) ∧ c = .off)) →
      (s.core.seq = .idleUnconf → exec i s = .next { s with core := refusedWith s.core 3 }) ∧
      (s.core.seq = .idleReady →
        ∃ m, exec i s = .next { s with core := { accepted s.core with
            cur := .transmit a d c, fb := m, fifoPos := 0, chunkIdx := 0, seq := .tPayload } } ∧
          Memory.wf m = true ∧ ∀ k < 195, some (memRead m k) = (buildFrame s.params a d c)[k]?))

/-- R236: BUILD_FRAME refuses invalid operands, then a core that is not configured; else it loads the frame into the buffer and
returns it on the result port, with no event. R236 does not list `cur`; AcceptedCommandIsTheCurrentOne states it. -/
def Obligations.BuildFrameReturnsTheFrame : Prop :=
  ∀ s : State, Memory.wf s.core.fb = true →
    (∀ addr dev act, idle s.core → (31 < addr.toNat ∨ 4 < dev.toNat ∨ 1 < act.toNat) →
      exec (.buildFrameCmd addr dev act) s = .next { s with core := refusedWith s.core 2 }) ∧
    (∀ (a : NetAddr) (d : Device) (c : Action),
      (s.core.seq = .idleUnconf →
        exec (.buildFrameCmd (a.setWidth 8) (devByte d) (actByte c)) s = .next { s with core := refusedWith s.core 3 }) ∧
      (s.core.seq = .idleReady →
        ∃ m u, exec (.buildFrameCmd (a.setWidth 8) (devByte d) (actByte c)) s = .next { s with core := { accepted s.core with
            cur := u, fb := m, result := some (buildFrame s.params a d c) } } ∧
          Memory.wf m = true ∧ ∀ k < 195, some (memRead m k) = (buildFrame s.params a d c)[k]?))

/-- R252: a command that ends with an error at acceptance leaves everything but `result`, `lastErr` and `errStep` as it was. -/
def Obligations.RefusedCommandChangesNothingElse : Prop :=
  ∀ (s t : State) (i : Instr), isHostCommand i = true → idle s.core → exec i s = .next t → t.core.lastErr ≠ 0 →
    t = { s with core := refusedWith s.core t.core.lastErr } ∧ t.core.lastErr.toNat ∈ [2, 3, 4]

/-- R255: of several errors a command reports the first: illegal encodings, then operand ranges, then the configuration
gate. -/
def Obligations.FirstErrorWins : Prop :=
  ∀ (s t : State) (w : CmdWord), s.core.seq = .idleUnconf → exec (decodeCmd w) s = .next t →
    t.core.lastErr =
      (if matchesRow w = false then 4
       else if (w.extractLsb' 56 8).toNat = 1 then
         (if w.getLsbD 40 = false ∧ 1023999969 < (w.extractLsb' 0 32).toNat then 2 else 0)
       else if 31 < (w.extractLsb' 0 8).toNat ∨ 4 < (w.extractLsb' 8 8).toNat ∨ 1 < (w.extractLsb' 16 8).toNat then 2
       else 3)

/-- A host command has no effect on a busy core, and a busy core takes no word from the host. -/
def Obligations.BusyCoreTakesNoCommand : Prop :=
  ∀ s : State, busy s.core.seq = true →
    (∀ i, isHostCommand i = true → exec i s = .next s) ∧
    (∀ t, s.unit = none → s.resetReq = false → step s = .next t → t.host = s.host)

/-- R254: the error exit, for every error. -/
def Obligations.ErrorExitRecordsAndForgets : Prop :=
  ∀ (s : State) (q : Seq),
    raiseErr .transportFailure q s = { s with core := { sessionLost s.core 1 with errStep := q } } ∧
    raiseErr .preconditionViolation q s = { s with core := { sessionLost s.core 5 with errStep := q } } ∧
    raiseErr .invalidParameter q s = { s with core := { s.core with lastErr := 2, errStep := q } } ∧
    raiseErr .configNotComplete q s = { s with core := { s.core with lastErr := 3, errStep := q } } ∧
    raiseErr .illegalCommand q s = { s with core := { s.core with lastErr := 4, errStep := q } }

/-! ## Configure steps -/

/-- R150: the reset pulse and its two delays, and no transaction. -/
def Obligations.ResetStepPulsesTheLine : Prop :=
  ∀ s : State,
    exec .cReset s = .next { s with core := { s.core with seq := .cSleep }, trace := s.trace ++
      [.reset .deassert, .delay s.params.resetWaitMs, .reset .assert, .delay s.params.settleMs] } ∧
    defaultParams.resetWaitMs = 100 ∧ defaultParams.settleMs = 1000

/-- R151: mode SLEEP. -/
def Obligations.SleepStepWritesTheMode : Prop :=
  ∀ s : State, WritesInOrder .cSleep s [[s.params.regOpmode ||| s.params.writeBit, s.params.modeSleep]] s.core
    { s.core with shadowMode := .sleep, seq := .cBitrate }

/-- R152: the bitrate divisor 4800, high byte first. -/
def Obligations.BitrateStepWritesTheDivisor : Prop :=
  ∀ s : State,
    (s.core.shadowMode = .sleep → WritesInOrder .cBitrate s
      [[s.params.regBitrateMsb ||| s.params.writeBit, 0x12], [s.params.regBitrateLsb ||| s.params.writeBit, 0xC0]] s.core
      { s.core with seq := .cFreq }) ∧
    (s.core.shadowMode ≠ .sleep → exec .cBitrate s = .next { s with core := sessionLost s.core 5 })

/-- R153: the frequency word, high byte first; `frf` is written at the start of the step (R148). -/
def Obligations.FrequencyStepWritesTheWord : Prop :=
  ∀ (s : State) (w : BitVec 24), w.toNat = (s.core.freqHz.toNat * 16384 + 500000) / 1000000 →
    (s.core.shadowMode = .sleep → WritesInOrder .cFreq s
      [[s.params.regFrfMsb ||| s.params.writeBit, w.extractLsb' 16 8],
       [s.params.regFrfMid ||| s.params.writeBit, w.extractLsb' 8 8],
       [s.params.regFrfLsb ||| s.params.writeBit, w.extractLsb' 0 8]]
      { s.core with frf := w } { s.core with frf := w, seq := .cPower }) ∧
    (s.core.shadowMode ≠ .sleep → exec .cFreq s = .next { s with core := sessionLost s.core 5 })

/-- R154: the high-power value, then the PA configuration, which the step also keeps. -/
def Obligations.PowerStepWritesBothValues : Prop :=
  ∀ (s : State) (dac cfg : Byte), powerEncode s.params s.core.powerReq.toInt = (dac, cfg) →
    WritesInOrder .cPower s
      [[s.params.regPaDac ||| s.params.writeBit, dac], [s.params.regPaConfig ||| s.params.writeBit, cfg]]
      { s.core with paDac := dac, paConfig := cfg } { s.core with paDac := dac, paConfig := cfg, seq := .cStandby }

/-- R155: mode STANDBY. -/
def Obligations.StandbyStepWritesTheMode : Prop :=
  ∀ s : State, WritesInOrder .cStandby s [[s.params.regOpmode ||| s.params.writeBit, s.params.modeStandby]] s.core
    { s.core with shadowMode := .standby, seq := .cPreamble }

/-- R156: no preamble. -/
def Obligations.PreambleStepWritesZeros : Prop :=
  ∀ s : State, WritesInOrder .cPreamble s
    [[s.params.regPreambleMsb ||| s.params.writeBit, 0x00], [s.params.regPreambleLsb ||| s.params.writeBit, 0x00]] s.core
    { s.core with seq := .cPacket }

/-- R157: the three packet-mode registers, with the field constraints on their values and the default values. -/
def Obligations.PacketStepWritesTheThreeValues : Prop :=
  (∀ s : State, WritesInOrder .cPacket s
    [[s.params.regSyncConfig ||| s.params.writeBit, s.params.valSyncConfig],
     [s.params.regPacketConfig1 ||| s.params.writeBit, s.params.valPacketConfig1],
     [s.params.regPacketConfig2 ||| s.params.writeBit, s.params.valPacketConfig2]] s.core
    { s.core with seq := .cPayload }) ∧
  (∀ p : Params, paramsWf p = true →
    p.valSyncConfig.getLsbD 4 = false ∧ p.valPacketConfig1.getLsbD 7 = false ∧ p.valPacketConfig1.extractLsb' 5 2 = 0 ∧
    p.valPacketConfig1.getLsbD 4 = false ∧ p.valPacketConfig1.extractLsb' 1 2 = 0 ∧ p.valPacketConfig2.getLsbD 6 = true ∧
    p.valPacketConfig2.getLsbD 5 = false ∧ p.valPacketConfig2.extractLsb' 0 3 = 0) ∧
  defaultParams.valSyncConfig = 0x00 ∧ defaultParams.valPacketConfig1 = 0x00 ∧ defaultParams.valPacketConfig2 = 0x40

/-- R158: the payload length 195, which the cache then holds. -/
def Obligations.PayloadStepWritesTheLength : Prop :=
  ∀ s : State, WritesInOrder .cPayload s [[s.params.regPayloadLength ||| s.params.writeBit, 195]] s.core
    { s.core with plenCache := some 195, seq := .cShaping }

/-- R159: the shaping value, with its field constraint and its default; the configuration is done. -/
def Obligations.ShapingStepEndsTheConfiguration : Prop :=
  (∀ s : State, WritesInOrder .cShaping s [[s.params.regPaRamp ||| s.params.writeBit, s.params.valPaRamp]] s.core
    { s.core with seq := .idleReady }) ∧
  (∀ p : Params, paramsWf p = true → p.valPaRamp.extractLsb' 5 2 = 1) ∧ defaultParams.valPaRamp = 0x29 ∧
  cfgDone .idleReady = true ∧ busy .idleReady = false

/-- R146: a bitrate or frequency step in another mode than SLEEP raises PreconditionViolation with no transaction; with the
invariant the check never fires. -/
def Obligations.ModePreconditionIsCheckedAndNeverFires : Prop :=
  (∀ (s : State) (i : Instr), i = .cBitrate ∨ i = .cFreq → s.core.shadowMode ≠ .sleep →
    exec i s = .next { s with core := sessionLost s.core 5 }) ∧
  (∀ s : State, Inv s → s.core.seq = .cBitrate ∨ s.core.seq = .cFreq → s.core.shadowMode = .sleep)

/-- A transport that never answers leaves the core busy for ever in any step that issues a transaction (R261). T_PAYLOAD issues
none from a state with the invariant, and T_MODE only where the session has not set the TX mode. -/
def Obligations.SilentTransportLeavesTheCoreStuck : Prop :=
  ∀ (s : State) (k : Nat), Inv s → s.resetReq = false → s.unit = none → s.env = [] →
    (s.core.seq ∈ [.cSleep, .cBitrate, .cFreq, .cPower, .cStandby, .cPreamble, .cPacket, .cPayload, .cShaping, .tFifo] ∨
      s.core.seq = .tMode ∧ s.core.txModeSet = false) →
    Host.Core.run Sys2Proof.core k s = .next s ∧ busy s.core.seq = true

/-- R160: a successful CONFIGURE issues exactly these 16 register writes, in this order, after the 4 events of step 1. The
second part is the table's columns of default addresses and values. Nothing is said of `cur`. -/
def Obligations.ConfigureIssuesTheSixteenWrites : Prop :=
  (∀ (s : State) (d : Bool) (pwr : BitVec 8) (freq : BitVec 32) (ws : List CmdWord) (bs : List Byte) (e : List Answer)
    (w : BitVec 24) (dac cfg : Byte),
    live s → s.unit = none → idle s.core → s.host = encodeConfigure d pwr freq :: ws → bs.length = 16 →
    s.env = allOk bs ++ e →
    w.toNat = ((if d then 433790000 else freq.toNat) * 16384 + 500000) / 1000000 →
    powerEncode s.params (if d then 5 else pwr.toInt) = (dac, cfg) →
    ∃ t, Host.Core.run Sys2Proof.core 11 s = .next t ∧
      t.trace = s.trace ++
        [.reset .deassert, .delay s.params.resetWaitMs, .reset .assert, .delay s.params.settleMs] ++
        ([(s.params.regOpmode, s.params.modeSleep), (s.params.regBitrateMsb, 0x12), (s.params.regBitrateLsb, 0xC0),
          (s.params.regFrfMsb, w.extractLsb' 16 8), (s.params.regFrfMid, w.extractLsb' 8 8),
          (s.params.regFrfLsb, w.extractLsb' 0 8), (s.params.regPaDac, dac), (s.params.regPaConfig, cfg),
          (s.params.regOpmode, s.params.modeStandby), (s.params.regPreambleMsb, 0x00), (s.params.regPreambleLsb, 0x00),
          (s.params.regSyncConfig, s.params.valSyncConfig), (s.params.regPacketConfig1, s.params.valPacketConfig1),
          (s.params.regPacketConfig2, s.params.valPacketConfig2), (s.params.regPayloadLength, 195),
          (s.params.regPaRamp, s.params.valPaRamp)].map fun av => okWrite [av.1 ||| s.params.writeBit, av.2]) ∧
      t.core = { s.core with
        cur := t.core.cur, seq := .idleReady, lastErr := 0, errStep := .idleUnconf, result := none,
        freqHz := (if d then 433790000 else freq), powerReq := (if d then 5 else pwr), frf := w, paDac := dac,
        paConfig := cfg, shadowMode := .standby, plenCache := some 195, txModeSet := false } ∧
      t.host = ws ∧ t.env = e ∧ t.params = s.params) ∧
  frfWord 433790000 = 0x6C728F ∧ powerEncode defaultParams 5 = (0x04, 0x80) ∧
  [(defaultParams.regOpmode, defaultParams.modeSleep), (defaultParams.regBitrateMsb, 0x12),
    (defaultParams.regBitrateLsb, 0xC0), (defaultParams.regFrfMsb, (0x6C728F#24).extractLsb' 16 8),
    (defaultParams.regFrfMid, (0x6C728F#24).extractLsb' 8 8), (defaultParams.regFrfLsb, (0x6C728F#24).extractLsb' 0 8),
    (defaultParams.regPaDac, 0x04), (defaultParams.regPaConfig, 0x80), (defaultParams.regOpmode, defaultParams.modeStandby),
    (defaultParams.regPreambleMsb, 0x00), (defaultParams.regPreambleLsb, 0x00),
    (defaultParams.regSyncConfig, defaultParams.valSyncConfig),
    (defaultParams.regPacketConfig1, defaultParams.valPacketConfig1),
    (defaultParams.regPacketConfig2, defaultParams.valPacketConfig2), (defaultParams.regPayloadLength, 195),
    (defaultParams.regPaRamp, defaultParams.valPaRamp)] =
  [((0x01 : Byte), (0x00 : Byte)), (0x02, 0x12), (0x03, 0xC0), (0x06, 0x6C), (0x07, 0x72), (0x08, 0x8F), (0x4D, 0x04),
    (0x09, 0x80), (0x01, 0x01), (0x25, 0x00), (0x26, 0x00), (0x27, 0x00), (0x30, 0x00), (0x31, 0x40), (0x32, 0xC3),
    (0x0A, 0x29)]

/-! ## Transmit steps -/

/-- R232: the payload length is written only when the cache does not hold it, and from a state with the invariant the cache
holds it, so the write is never issued. -/
def Obligations.PayloadLengthIsWrittenOnlyIfNotCached : Prop :=
  ∀ s : State,
    (Inv s → s.core.seq = .tPayload →
      s.core.plenCache = some 195 ∧ exec .tPayload s = .next { s with core := { s.core with seq := .tMode } }) ∧
    (s.core.plenCache = some 195 → exec .tPayload s = .next { s with core := { s.core with seq := .tMode } }) ∧
    (s.core.plenCache ≠ some 195 → WritesInOrder .tPayload s [[s.params.regPayloadLength ||| s.params.writeBit, 195]] s.core
      { s.core with plenCache := some 195, seq := .tMode })

/-- R233: mode TX+OOK is written once in a session. -/
def Obligations.TxModeIsWrittenOnlyOnce : Prop :=
  ∀ s : State,
    (s.core.txModeSet = true → exec .tMode s = .next { s with core := { s.core with seq := .tFifo } }) ∧
    (s.core.txModeSet = false → WritesInOrder .tMode s [[s.params.regOpmode ||| s.params.writeBit, s.params.modeTxOok]] s.core
      { s.core with txModeSet := true, shadowMode := .txOok, seq := .tFifo })

/-- R234: one burst of the next chunk of the buffer; after the last byte the core is ready again. -/
def Obligations.FifoStepBurstsOneChunk : Prop :=
  ∀ (s : State) (n : Nat), s.params.fifoChunks[s.core.chunkIdx]? = some n → s.core.fifoPos + n ≤ 195 →
    WritesInOrder .tFifo s
      [(s.params.regFifo ||| s.params.writeBit) :: (List.range n).map (fun j => memRead s.core.fb (s.core.fifoPos + j))] s.core
      { s.core with fifoPos := s.core.fifoPos + n, chunkIdx := s.core.chunkIdx + 1,
                    seq := if s.core.fifoPos + n = 195 then .idleReady else .tFifo }

/-- R235: a successful TRANSMIT writes the TX mode if the session has not, then sends exactly the frame in bursts to the FIFO
register, one for each chunk of the split; the payload length is already cached. -/
def Obligations.TransmitSendsExactlyTheFrame : Prop :=
  ∀ (s : State) (a : NetAddr) (d : Device) (c : Action) (ws : List CmdWord) (bs : List Byte) (e : List Answer),
    Inv s → s.resetReq = false → s.unit = none → s.core.seq = .idleReady →
    s.host = encodeTx 0x02 (a.setWidth 8) (devByte d) (actByte c) :: ws → s.env = allOk bs ++ e →
    bs.length = (if s.core.txModeSet then 0 else 1) + s.params.fifoChunks.length →
    ∃ (t : State) (parts : List (List Byte)), Host.Core.run Sys2Proof.core (3 + s.params.fifoChunks.length) s = .next t ∧
      parts.map List.length = s.params.fifoChunks ∧ parts.flatten = buildFrame s.params a d c ∧
      t.trace = s.trace ++
        (if s.core.txModeSet then [] else [okWrite [s.params.regOpmode ||| s.params.writeBit, s.params.modeTxOok]]) ++
        parts.map (fun b => okWrite ((s.params.regFifo ||| s.params.writeBit) :: b)) ∧
      t.core.seq = .idleReady ∧ t.core.lastErr = 0 ∧ t.core.txModeSet = true ∧ t.core.shadowMode = .txOok ∧
      t.core.fifoPos = 195 ∧ t.core.chunkIdx = s.params.fifoChunks.length ∧ t.host = ws ∧ t.env = e

/-! ## Register interface -/

/-- R120, R121: a register write, and a burst write whatever its length, is one transaction and writes no state. They run here as
instructions of their own (log entry 8). -/
def Obligations.RegisterWriteIsOneTransaction : Prop :=
  ∀ (s : State) (a : RegAddr),
    (∀ v : Byte, WritesInOrder (.wr a v) s [[a.setWidth 8 ||| s.params.writeBit, v]] s.core s.core) ∧
    (∀ bs : List Byte, bs ≠ [] →
      WritesInOrder (.wrBurst a bs) s [(a.setWidth 8 ||| s.params.writeBit) :: bs] s.core s.core)

/-- A register read sends the address with bit 7 clear and a dummy byte, receives one byte, which goes to the caller (log
entry 8), and writes no state; a failure raises TransportFailure (R122). -/
def Obligations.RegisterReadReturnsTheReceivedByte : Prop :=
  ∀ (s : State) (a : RegAddr) (e : List Answer),
    (∀ b, s.env = .ok b :: e → exec (.rd a) s = .next { s with
      env := e, trace := s.trace ++ [.txn [a.setWidth 8, 0x00] 1 (.ok [b])], unitOut := [b] }) ∧
    (∀ k, s.env = .fail k :: e → k ≤ 2 → exec (.rd a) s = .next { s with
      env := e, trace := s.trace ++ [.txn [a.setWidth 8, 0x00] 1 (.fail k)], core := sessionLost s.core 1 })

/-- R126: no other instruction reads, and no field of the core depends on read data. -/
def Obligations.CoreNeverReadsTheTransceiver : Prop :=
  (∀ (i : Instr) (s t : State), (∀ a, i ≠ .rd a) → exec i s = .next t →
    ∃ es, t.trace = s.trace ++ es ∧ ∀ ev ∈ es, ev.reads = false) ∧
  (∀ (a : RegAddr) (s t t' : State) (b b' : Byte) (e : List Answer),
    exec (.rd a) { s with env := .ok b :: e } = .next t → exec (.rd a) { s with env := .ok b' :: e } = .next t' →
    t.core = t'.core ∧ t.core = s.core)

/-- Only TRANSMIT, ON, OFF and BUILD_FRAME write the frame buffer: after any other instruction every index reads as
before (R60). -/
def Obligations.OnlyFrameCommandsWriteTheBuffer : Prop :=
  ∀ (i : Instr) (s t : State), exec i s = .next t →
    (∀ x y z, i ≠ .transmit x y z) → (∀ x y z, i ≠ .buildFrameCmd x y z) → (∀ x y, i ≠ .on x y) → (∀ x y, i ≠ .off x y) →
    ∀ k, fbRead t k = fbRead s k

/-! ## Line codec and framer -/

/-- The rows of the codec and the framer complete in every state, return their value to the caller (log entry 8) and change
nothing else (R92, R190, R194, R220). -/
def Obligations.CodecRowsReturnTheirValues : Prop :=
  ∀ s : State,
    exec .zero s = .next { s with unitOut := [0x08] } ∧
    exec .one s = .next { s with unitOut := [0x0E] } ∧
    exec .silence s = .next { s with unitOut := [0x00] } ∧
    ∀ (a : NetAddr) (d : Device) (c : Action),
      exec (.cmdPacket a d c) s = .next { s with unitOut := pack (cmdSyms s.params a d c) } ∧
      exec (.endPacket a) s = .next { s with unitOut := pack (endSyms s.params a) } ∧
      exec (.buildFrame a d c) s = .next { s with unitOut :=
        (List.replicate 12 (pack (cmdSyms s.params a d c))).flatten ++
        (List.replicate 3 (pack (endSyms s.params a))).flatten }

/-- R183: the address is read back from its field, and every companion symbol is 1. -/
def Obligations.AddressFieldReadsBack : Prop :=
  ∀ a : NetAddr,
    a.toNat = ((List.range 5).map fun i =>
      (if ((addrField a)[2 * i]?).bind unsym = some true then 2 ^ (4 - i) else 0)).sum ∧
    ∀ i < 5, ((addrField a)[2 * i]?).bind unsym ≠ none ∧ ((addrField a)[2 * i + 1]?).bind unsym = some true

/-- R186: the device fields are pairwise distinct, and each has exactly one group that is not the filler, at its device's
position. -/
def Obligations.DeviceFieldSelectsOneGroup : Prop :=
  ∀ p : Params, p.groupSel ≠ p.groupFill →
    (∀ d d', devField p d = devField p d' → d = d') ∧
    (∀ d, ∀ q < 5, ((devField p d).drop (2 * q)).take 2 = grp p.groupFill ↔ q ≠ devPos d)

/-- R188: with the default tables OFF is ON with its groups swapped, and its complement bit by bit but not chip by chip. -/
def Obligations.ActionPatternsMirrorAndComplement : Prop :=
  defaultParams.actOff = (defaultParams.actOn.2, defaultParams.actOn.1) ∧
  (actField defaultParams .off).map unsym = (actField defaultParams .on).map (fun n => (unsym n).map not) ∧
  (actField defaultParams .on).map unsym = [some false, some true, some true, some false] ∧
  unsym (~~~ sym false) = none ∧ ~~~ sym false ≠ sil

/-- R95: what symbol stands at each of the 26 positions of the two kinds of packet. -/
def Obligations.PacketLayoutBySymbol : Prop :=
  ∀ (p : Params) (a : NetAddr) (d : Device) (c : Action),
    (cmdSyms p a d c).length = 26 ∧ (endSyms p a).length = 26 ∧
    (∀ syms, syms = cmdSyms p a d c ∨ syms = endSyms p a →
      (∀ i < 5, syms[2 * i]? = some (sym (a.getLsbD (4 - i))) ∧ syms[2 * i + 1]? = some 0xE) ∧
      syms[10]? = some 0x8 ∧ syms[25]? = some 0x0) ∧
    (∀ q < 5, ∃ g, g = (if q = devPos d then p.groupSel else p.groupFill) ∧
      (cmdSyms p a d c)[11 + 2 * q]? = some (sym g.first) ∧ (cmdSyms p a d c)[12 + 2 * q]? = some (sym g.second)) ∧
    (∃ g h, (g, h) = (if c = .on then p.actOn else p.actOff) ∧
      (cmdSyms p a d c)[21]? = some (sym g.first) ∧ (cmdSyms p a d c)[22]? = some (sym g.second) ∧
      (cmdSyms p a d c)[23]? = some (sym h.first) ∧ (cmdSyms p a d c)[24]? = some (sym h.second)) ∧
    (∀ q < 7, ∃ g, p.endTail.toList[q]? = some g ∧
      (endSyms p a)[11 + 2 * q]? = some (sym g.first) ∧ (endSyms p a)[12 + 2 * q]? = some (sym g.second))

/-- R193: the packer puts symbols 2j and 2j + 1 into byte j, the earlier one high. -/
def Obligations.PackPairsSymbols : Prop :=
  ∀ (m : Nat) (ns : List Nibble), ns.length = 2 * m →
    (pack ns).length = m ∧
    ∀ j < m, ∃ hi lo, ns[2 * j]? = some hi ∧ ns[2 * j + 1]? = some lo ∧
      (pack ns)[j]? = some (hi.setWidth 8 <<< 4 ||| lo.setWidth 8)

/-- R221: every frame has 195 bytes. -/
def Obligations.FrameHas195Bytes : Prop :=
  ∀ (p : Params) (a : NetAddr) (d : Device) (c : Action), (buildFrame p a d c).length = 195

/-- R97: packet j occupies frame bytes 13j to 13j + 12; packets 0 to 11 are the command packet, 12 to 14 the end-marker packet
of the same address. -/
def Obligations.FrameLayoutByPacket : Prop :=
  ∀ (p : Params) (a : NetAddr) (d : Device) (c : Action), (buildFrame p a d c).length = 13 * 15 ∧ ∀ j < 15,
    ((buildFrame p a d c).drop (13 * j)).take 13 = (if j < 12 then cmdPacket p a d c else endPacket p a)

/-- R222: distinct operands give distinct frames, when the device and action tables tell their entries apart. The check of a
record demands this of the device table only (log entry 25), so the action tables' is a premise here; the default tables meet
it. -/
def Obligations.FrameDeterminesItsOperands : Prop :=
  ∀ (p : Params) (a a' : NetAddr) (d d' : Device) (c c' : Action), p.groupSel ≠ p.groupFill → p.actOn ≠ p.actOff →
    buildFrame p a d c = buildFrame p a' d' c' → a = a' ∧ d = d' ∧ c = c'

/-- R195: a packet is 104 chips, those of its 26 symbols one after another; the last four are 0, and each of its first 25
symbols starts with a 1. -/
def Obligations.PacketChipView : Prop :=
  ∀ (p : Params) (a : NetAddr) (d : Device) (c : Action) (syms : List Nibble) (bs : List Byte),
    (syms = cmdSyms p a d c ∧ bs = cmdPacket p a d c) ∨ (syms = endSyms p a ∧ bs = endPacket p a) →
    syms.length = 26 ∧
    chips bs = syms.flatMap (fun n => [n.getLsbD 3, n.getLsbD 2, n.getLsbD 1, n.getLsbD 0]) ∧
    (chips bs).length = 104 ∧ (∀ k, 100 ≤ k → k < 104 → (chips bs)[k]? = some false) ∧
    ∀ n < 25, (chips bs)[4 * n]? = some true

/-! ## The functions the steps compute -/

/-- R142: the frequency word is the exact quotient by the step, rounded half up. -/
def Obligations.FrequencyWordRoundsTheQuotient : Prop :=
  (∀ hz : Nat, frfWord hz = (hz * 16384 + 500000) / 1000000 ∧ frfWord hz = roundHalfUp (hz * 2 ^ 19) 32000000 ∧
    2 * (frfWord hz) * 32000000 ≤ 2 * (hz * 2 ^ 19) + 32000000 ∧
    2 * (hz * 2 ^ 19) + 32000000 < 2 * (frfWord hz + 1) * 32000000) ∧
  frfWord 0 = 0 ∧ frfWord 433790000 = 7107215

/-- R144: the clamped power, less 3 on the high-power path, above 5, in the low bits of the configuration byte. -/
def Obligations.PowerEncodingByRange : Prop :=
  ∀ (p : Params) (req : Int),
    (req ≤ 5 → powerEncode p req = (p.paDacNormal, 0x80)) ∧
    (∀ k : Nat, k < 16 → req = 5 + k → powerEncode p req = (p.paDacNormal, BitVec.ofNat 8 (0x80 + k))) ∧
    (∀ k : Nat, k < 3 → req = 21 + k → powerEncode p req = (p.paDacHigh, BitVec.ofNat 8 (0x8D + k))) ∧
    (23 ≤ req → powerEncode p req = (p.paDacHigh, 0x8F))

/-- R145: the hardwired divisor is the rounded quotient of 32,000,000 by 6666.7. -/
def Obligations.BitrateDivisorIsTheRoundedQuotient : Prop :=
  roundHalfUp (32000000 * 10) 66667 = 4800 ∧ bitrateDiv.toNat = 4800 ∧ bitrateDiv = 0x12C0

/-! ## The command being executed -/

/-- R33: an accepted host command is the one `cur` holds, with its operands; a refused command, a busy core and every other
instruction leave `cur` as it is. (Log entry 12: R140 and R236 do not list the write.) -/
def Obligations.AcceptedCommandIsTheCurrentOne : Prop :=
  ∀ (s t : State) (i : Instr), exec i s = .next t →
    (isHostCommand i = false ∨ busy s.core.seq = true ∨ t.core.lastErr ≠ 0 → t.core.cur = s.core.cur) ∧
    (idle s.core → t.core.lastErr = 0 →
      ((∃ dflt p f, i = .configure dflt p f) ∨ i = .configureDefault → t.core.cur = .configure) ∧
      (∀ (a : NetAddr) (d : Device) (c : Action),
        (i = .transmit (a.setWidth 8) (devByte d) (actByte c) ∨ (i = .on (a.setWidth 8) (devByte d) ∧ c = .on) ∨
         (i = .off (a.setWidth 8) (devByte d) ∧ c = .off) → t.core.cur = .transmit a d c) ∧
        (i = .buildFrameCmd (a.setWidth 8) (devByte d) (actByte c) → t.core.cur = .buildFrame a d c)))
end

