-- ==== Sys2Proof/Laws/Codec.lean ====
section
/-! SUPPORT. Small facts about symbols, groups and packing. -/

namespace Sys2Proof.Machine

@[simp] theorem unsym_sym (b : Bool) : unsym (sym b) = some b := by cases b <;> rfl

@[simp] theorem unsym_sil : unsym sil = none := rfl

theorem sym_injective {a b : Bool} (h : sym a = sym b) : a = b := by
  have := congrArg unsym h
  simpa using this

@[simp] theorem grp_length (g : Group) : (grp g).length = 2 := rfl

theorem devPos_injective {d e : Device} (h : devPos d = devPos e) : d = e := by
  cases d <;> cases e <;> simp [devPos] at h <;> rfl

@[simp] theorem pack_nil : pack [] = [] := rfl

@[simp] theorem pack_cons (hi lo : Nibble) (ns : List Nibble) : pack (hi :: lo :: ns) = packByte hi lo :: pack ns := rfl

/-- The two nibbles of a packed byte. -/
theorem packByte_nibbles : ∀ hi lo : Nibble,
    (packByte hi lo).extractLsb' 4 4 = hi ∧ (packByte hi lo).extractLsb' 0 4 = lo := by decide

/-- A frame is one packet after another. -/
theorem buildFrame_packets (p : Params) (a : NetAddr) (d : Device) (c : Action) :
    buildFrame p a d c =
      (List.replicate cmdRepeat (cmdPacket p a d c) ++ List.replicate endRepeat (endPacket p a)).flatten := by
  rw [buildFrame, List.flatten_append]

end Sys2Proof.Machine
end

