-- ==== Sys2Proof/Laws/Memory.lean ====
section
/-! SUPPORT. The frame buffer's laws: a read after a write, writes elsewhere, and that every memory operation keeps the
canonical form. -/

namespace Sys2Proof.Machine

theorem memWfAbove_cons {lo : Option Nat} {a : Nat} {v : Byte} {m : List Host.Cell} :
    memWfAbove lo ((a, v) :: m) = true ↔
      (∀ l, lo = some l → l < a) ∧ v ≠ fbDefault ∧ memWfAbove (some a) m = true := by
  cases lo <;> simp [memWfAbove, and_assoc]

theorem memWfAbove_weaken {l a : Nat} (h : l ≤ a) :
    ∀ {m : List Host.Cell}, memWfAbove (some a) m = true → memWfAbove (some l) m = true
  | [], _ => rfl
  | (b, w) :: m, hm => by
    rw [memWfAbove_cons] at hm ⊢
    exact ⟨fun k hk => by have := hm.1 a rfl; simp at hk; omega, hm.2⟩

/-- An index at or below the bound of a canonical list is not listed in it. -/
theorem memRead_below {a k : Nat} (h : k ≤ a) :
    ∀ {m : List Host.Cell}, memWfAbove (some a) m = true → memRead m k = fbDefault
  | [], _ => rfl
  | (b, w) :: m, hm => by
    rw [memWfAbove_cons] at hm
    have hb := hm.1 a rfl
    simp only [memRead, show ¬ b = k by omega, if_false]
    exact memRead_below (by omega) hm.2.2

theorem memRead_memWrite_same {a : Nat} {v : Byte} :
    ∀ {lo : Option Nat} {m : List Host.Cell}, memWfAbove lo m = true → memRead (memWrite m a v) a = v
  | _, [], _ => by
    by_cases hv : v = fbDefault <;> simp [memWrite, memRead, hv]
  | lo, (b, w) :: m, hm => by
    have hm' := memWfAbove_cons.mp hm
    simp only [memWrite]
    split
    · split
      · next h hv =>
        have : b ≠ a := by omega
        simp [memRead, this, hv, memRead_below (Nat.le_of_lt h) hm'.2.2]
      · simp [memRead]
    · split
      · next h =>
        subst h
        split
        · next hv => rw [hv]; exact memRead_below (Nat.le_refl _) hm'.2.2
        · simp [memRead]
      · next h =>
        simp only [memRead, show ¬ b = a from fun e => h e.symm, if_false]
        exact memRead_memWrite_same hm'.2.2

theorem memRead_memWrite_other {a k : Nat} (v : Byte) (h : k ≠ a) :
    ∀ m : List Host.Cell, memRead (memWrite m a v) k = memRead m k
  | [] => by by_cases hv : v = fbDefault <;> simp [memWrite, memRead, hv, h.symm]
  | (b, w) :: m => by
    simp only [memWrite]
    split
    · split <;> simp [memRead, h.symm]
    · split
      · next hb => subst hb; split <;> simp [memRead, h.symm]
      · simp only [memRead, memRead_memWrite_other v h m]

theorem memWrite_wfAbove {a : Nat} (v : Byte) :
    ∀ {lo : Option Nat} {m : List Host.Cell}, (∀ l, lo = some l → l < a) → memWfAbove lo m = true →
      memWfAbove lo (memWrite m a v) = true
  | lo, [], hl, _ => by
    by_cases hv : v = fbDefault
    · simp [memWrite, hv, memWfAbove]
    · simpa [memWrite, hv] using (memWfAbove_cons (lo := lo) (m := [])).mpr ⟨hl, hv, rfl⟩
  | lo, (b, w) :: m, hl, hm => by
    have hm' := memWfAbove_cons.mp hm
    simp only [memWrite]
    split
    · next h =>
      split
      · exact hm
      · next hv =>
        exact memWfAbove_cons.mpr ⟨hl, hv, memWfAbove_cons.mpr ⟨fun l e => by simp at e; omega, hm'.2⟩⟩
    · split
      · next hab =>
        subst hab
        split
        · cases lo with
          | none =>
            cases m with
            | nil => rfl
            | cons c m =>
              obtain ⟨k, x⟩ := c
              have := memWfAbove_cons.mp hm'.2.2
              exact memWfAbove_cons.mpr ⟨fun l e => by simp at e, this.2⟩
          | some l => exact memWfAbove_weaken (Nat.le_of_lt (hl l rfl)) hm'.2.2
        · next hv => exact memWfAbove_cons.mpr ⟨hl, hv, hm'.2.2⟩
      · next h1 h2 =>
        exact memWfAbove_cons.mpr ⟨hm'.1, hm'.2.1,
          memWrite_wfAbove v (fun l e => by simp at e; omega) hm'.2.2⟩

theorem mem_memWrite {a : Nat} {v : Byte} {c : Host.Cell} :
    ∀ {m : List Host.Cell}, c ∈ memWrite m a v → c.1 = a ∨ c ∈ m
  | [], h => by by_cases hv : v = fbDefault <;> simp [memWrite, hv] at h; simp [h]
  | (b, w) :: m, h => by
    simp only [memWrite] at h
    split at h
    · split at h
      · exact .inr h
      · rcases List.mem_cons.mp h with h | h
        · exact .inl (by rw [h])
        · exact .inr h
    · split at h
      · split at h
        · exact .inr (List.mem_cons_of_mem _ h)
        · rcases List.mem_cons.mp h with h | h
          · exact .inl (by rw [h])
          · exact .inr (List.mem_cons_of_mem _ h)
      · rcases List.mem_cons.mp h with h | h
        · exact .inr (by rw [h]; exact List.mem_cons_self)
        · rcases mem_memWrite h with h | h
          · exact .inl h
          · exact .inr (List.mem_cons_of_mem _ h)

theorem Memory.wf_above {m : List Host.Cell} (h : Memory.wf m = true) : memWfAbove none m = true := by
  simp only [Memory.wf, Bool.and_eq_true] at h; exact h.1

/-- A write at an index that exists keeps the canonical form. -/
theorem memWrite_wf {m : List Host.Cell} {a : Nat} (v : Byte) (ha : a < frameLen) (h : Memory.wf m = true) :
    Memory.wf (memWrite m a v) = true := by
  simp only [Memory.wf, Bool.and_eq_true, List.all_eq_true, decide_eq_true_eq] at h ⊢
  refine ⟨memWrite_wfAbove v (by simp) h.1, fun c hc => ?_⟩
  rcases mem_memWrite hc with e | hc
  · omega
  · exact h.2 c hc

/-- Storing a byte string keeps the canonical form. -/
theorem memWriteAll_wf : ∀ (bs : List Byte) (i : Nat) {m : List Host.Cell}, Memory.wf m = true →
    Memory.wf (memWriteAll m i bs) = true
  | [], _, _, h => h
  | b :: bs, i, m, h => by
    simp only [memWriteAll]
    split
    · next hi => exact memWriteAll_wf bs (i + 1) (memWrite_wf b hi h)
    · exact memWriteAll_wf bs (i + 1) h

/-- What a read gives after a byte string was stored: the string's byte inside it, the old byte outside. -/
theorem memRead_memWriteAll : ∀ (bs : List Byte) (i k : Nat) {m : List Host.Cell}, Memory.wf m = true →
    i + bs.length ≤ frameLen →
    memRead (memWriteAll m i bs) k = (if i ≤ k then bs[k - i]? else none).getD (memRead m k)
  | [], i, k, m, _, _ => by simp [memWriteAll]
  | b :: bs, i, k, m, h, hl => by
    simp only [List.length_cons] at hl
    have hi : i < frameLen := by omega
    have hw := memWrite_wf b hi h
    simp only [memWriteAll, if_pos hi]
    rw [memRead_memWriteAll bs (i + 1) k hw (by omega)]
    by_cases hk : k = i
    · subst hk
      simp [memRead_memWrite_same (Memory.wf_above h), show ¬ k + 1 ≤ k by omega]
    · rw [memRead_memWrite_other b hk]
      by_cases hik : i ≤ k
      · have : k - i = (k - (i + 1)) + 1 := by omega
        simp [hik, show i + 1 ≤ k by omega, this]
      · simp [hik, show ¬ i + 1 ≤ k by omega]

/-- Storing 195 bytes makes the buffer exactly those bytes. -/
theorem fbBytes_memWriteAll {m : List Host.Cell} {bs : List Byte} (h : Memory.wf m = true) (hl : bs.length = frameLen) :
    fbBytes (memWriteAll m 0 bs) = bs := by
  apply List.ext_getElem
  · simp [fbBytes, hl]
  · intro k h1 h2
    simp only [fbBytes, List.getElem_map, List.getElem_range]
    rw [memRead_memWriteAll bs 0 k h (by omega)]
    simp [h2]

/-- Canonical buffers that read alike everywhere are equal. -/
theorem memWfAbove_ext : ∀ {lo lo' : Option Nat} {m m' : List Host.Cell}, memWfAbove lo m = true → memWfAbove lo' m' = true →
    (∀ k, memRead m k = memRead m' k) → m = m'
  | _, _, [], [], _, _, _ => rfl
  | _, _, [], (b, w) :: m', _, h', e => by
    have := e b
    simp [memRead] at this
    exact absurd this.symm (memWfAbove_cons.mp h').2.1
  | _, _, (b, w) :: m, [], h, _, e => by
    have := e b
    simp [memRead] at this
    exact absurd this (memWfAbove_cons.mp h).2.1
  | _, _, (b, w) :: m, (b', w') :: m', h, h', e => by
    have hc := memWfAbove_cons.mp h
    have hc' := memWfAbove_cons.mp h'
    have hb : b = b' := by
      rcases Nat.lt_trichotomy b b' with hlt | heq | hlt
      · have := e b
        simp only [memRead, if_true, show ¬ b' = b by omega, if_false] at this
        rw [memRead_below (Nat.le_of_lt hlt) hc'.2.2] at this
        exact absurd this hc.2.1
      · exact heq
      · have := e b'
        simp only [memRead, if_true, show ¬ b = b' by omega, if_false] at this
        rw [memRead_below (Nat.le_of_lt hlt) hc.2.2] at this
        exact absurd this.symm hc'.2.1
    subst hb
    have hw : w = w' := by simpa [memRead] using e b
    subst hw
    have : m = m' := memWfAbove_ext hc.2.2 hc'.2.2 fun k => by
      by_cases hk : b = k
      · subst hk
        rw [memRead_below (Nat.le_refl _) hc.2.2, memRead_below (Nat.le_refl _) hc'.2.2]
      · simpa [memRead, hk] using e k
    rw [this]

/-- Reading `n` bytes from an index succeeds exactly inside the buffer, and gives them in order. -/
theorem fbSlice_eq (s : State) : ∀ (n pos : Nat), pos + n ≤ frameLen →
    fbSlice s pos n = some ((List.range n).map fun j => memRead s.core.fb (pos + j))
  | 0, _, _ => rfl
  | n + 1, pos, h => by
    have hp : pos < frameLen := by omega
    simp only [fbSlice, fbRead, if_pos hp, fbSlice_eq s n (pos + 1) (by omega)]
    simp only [List.range_succ_eq_map, List.map_cons, List.map_map, Nat.add_zero]
    congr 2
    apply List.map_congr_left
    intro j _
    simp only [Function.comp, Nat.succ_eq_add_one]
    rw [show pos + (j + 1) = pos + 1 + j by omega]

theorem fbSlice_isSome (s : State) : ∀ (n pos : Nat), (fbSlice s pos n).isSome = true → n = 0 ∨ pos + n ≤ frameLen
  | 0, _, _ => .inl rfl
  | n + 1, pos, h => by
    simp only [fbSlice, fbRead] at h
    split at h
    · next b bs hb hbs =>
      split at hb
      · rcases fbSlice_isSome s n (pos + 1) (by rw [hbs]; rfl) with h0 | h0 <;> right <;> omega
      · simp at hb
    · simp at h

/-- The frame buffer after reset has its canonical form. -/
theorem reset_fb_wf : Memory.wf State.reset.core.fb = true := rfl

end Sys2Proof.Machine
end

