-- ==== Sys2Proof/Laws/State.lean ====
section
/-! SUPPORT. One lemma for each field and each update of the state: what the update writes there, or that it leaves the field
as it was. -/

namespace Sys2Proof.Machine

variable (s : State) (c : Core)

@[simp] theorem Core.setSeq_seq (q : Seq) : (c.setSeq q).seq = q := rfl
@[simp] theorem Core.setSeq_lastErr (q : Seq) : (c.setSeq q).lastErr = c.lastErr := rfl
@[simp] theorem Core.setSeq_errStep (q : Seq) : (c.setSeq q).errStep = c.errStep := rfl
@[simp] theorem Core.setSeq_freqHz (q : Seq) : (c.setSeq q).freqHz = c.freqHz := rfl
@[simp] theorem Core.setSeq_powerReq (q : Seq) : (c.setSeq q).powerReq = c.powerReq := rfl
@[simp] theorem Core.setSeq_frf (q : Seq) : (c.setSeq q).frf = c.frf := rfl
@[simp] theorem Core.setSeq_paDac (q : Seq) : (c.setSeq q).paDac = c.paDac := rfl
@[simp] theorem Core.setSeq_paConfig (q : Seq) : (c.setSeq q).paConfig = c.paConfig := rfl
@[simp] theorem Core.setSeq_shadowMode (q : Seq) : (c.setSeq q).shadowMode = c.shadowMode := rfl
@[simp] theorem Core.setSeq_plenCache (q : Seq) : (c.setSeq q).plenCache = c.plenCache := rfl
@[simp] theorem Core.setSeq_txModeSet (q : Seq) : (c.setSeq q).txModeSet = c.txModeSet := rfl
@[simp] theorem Core.setSeq_fb (q : Seq) : (c.setSeq q).fb = c.fb := rfl
@[simp] theorem Core.setSeq_fifoPos (q : Seq) : (c.setSeq q).fifoPos = c.fifoPos := rfl
@[simp] theorem Core.setSeq_chunkIdx (q : Seq) : (c.setSeq q).chunkIdx = c.chunkIdx := rfl
@[simp] theorem Core.setSeq_cur (q : Seq) : (c.setSeq q).cur = c.cur := rfl
@[simp] theorem Core.setSeq_result (q : Seq) : (c.setSeq q).result = c.result := rfl

@[simp] theorem Core.setErr_seq (e : BitVec 3) (q : Seq) : (c.setErr e q).seq = c.seq := rfl
@[simp] theorem Core.setErr_lastErr (e : BitVec 3) (q : Seq) : (c.setErr e q).lastErr = e := rfl
@[simp] theorem Core.setErr_errStep (e : BitVec 3) (q : Seq) : (c.setErr e q).errStep = q := rfl
@[simp] theorem Core.setErr_freqHz (e : BitVec 3) (q : Seq) : (c.setErr e q).freqHz = c.freqHz := rfl
@[simp] theorem Core.setErr_powerReq (e : BitVec 3) (q : Seq) : (c.setErr e q).powerReq = c.powerReq := rfl
@[simp] theorem Core.setErr_frf (e : BitVec 3) (q : Seq) : (c.setErr e q).frf = c.frf := rfl
@[simp] theorem Core.setErr_paDac (e : BitVec 3) (q : Seq) : (c.setErr e q).paDac = c.paDac := rfl
@[simp] theorem Core.setErr_paConfig (e : BitVec 3) (q : Seq) : (c.setErr e q).paConfig = c.paConfig := rfl
@[simp] theorem Core.setErr_shadowMode (e : BitVec 3) (q : Seq) : (c.setErr e q).shadowMode = c.shadowMode := rfl
@[simp] theorem Core.setErr_plenCache (e : BitVec 3) (q : Seq) : (c.setErr e q).plenCache = c.plenCache := rfl
@[simp] theorem Core.setErr_txModeSet (e : BitVec 3) (q : Seq) : (c.setErr e q).txModeSet = c.txModeSet := rfl
@[simp] theorem Core.setErr_fb (e : BitVec 3) (q : Seq) : (c.setErr e q).fb = c.fb := rfl
@[simp] theorem Core.setErr_fifoPos (e : BitVec 3) (q : Seq) : (c.setErr e q).fifoPos = c.fifoPos := rfl
@[simp] theorem Core.setErr_chunkIdx (e : BitVec 3) (q : Seq) : (c.setErr e q).chunkIdx = c.chunkIdx := rfl
@[simp] theorem Core.setErr_cur (e : BitVec 3) (q : Seq) : (c.setErr e q).cur = c.cur := rfl
@[simp] theorem Core.setErr_result (e : BitVec 3) (q : Seq) : (c.setErr e q).result = c.result := rfl

@[simp] theorem Core.setOperands_seq (f : BitVec 32) (p : BitVec 8) : (c.setOperands f p).seq = c.seq := rfl
@[simp] theorem Core.setOperands_lastErr (f : BitVec 32) (p : BitVec 8) : (c.setOperands f p).lastErr = c.lastErr := rfl
@[simp] theorem Core.setOperands_errStep (f : BitVec 32) (p : BitVec 8) : (c.setOperands f p).errStep = c.errStep := rfl
@[simp] theorem Core.setOperands_freqHz (f : BitVec 32) (p : BitVec 8) : (c.setOperands f p).freqHz = f := rfl
@[simp] theorem Core.setOperands_powerReq (f : BitVec 32) (p : BitVec 8) : (c.setOperands f p).powerReq = p := rfl
@[simp] theorem Core.setOperands_frf (f : BitVec 32) (p : BitVec 8) : (c.setOperands f p).frf = c.frf := rfl
@[simp] theorem Core.setOperands_paDac (f : BitVec 32) (p : BitVec 8) : (c.setOperands f p).paDac = c.paDac := rfl
@[simp] theorem Core.setOperands_paConfig (f : BitVec 32) (p : BitVec 8) : (c.setOperands f p).paConfig = c.paConfig := rfl
@[simp] theorem Core.setOperands_shadowMode (f : BitVec 32) (p : BitVec 8) : (c.setOperands f p).shadowMode = c.shadowMode := rfl
@[simp] theorem Core.setOperands_plenCache (f : BitVec 32) (p : BitVec 8) : (c.setOperands f p).plenCache = c.plenCache := rfl
@[simp] theorem Core.setOperands_txModeSet (f : BitVec 32) (p : BitVec 8) : (c.setOperands f p).txModeSet = c.txModeSet := rfl
@[simp] theorem Core.setOperands_fb (f : BitVec 32) (p : BitVec 8) : (c.setOperands f p).fb = c.fb := rfl
@[simp] theorem Core.setOperands_fifoPos (f : BitVec 32) (p : BitVec 8) : (c.setOperands f p).fifoPos = c.fifoPos := rfl
@[simp] theorem Core.setOperands_chunkIdx (f : BitVec 32) (p : BitVec 8) : (c.setOperands f p).chunkIdx = c.chunkIdx := rfl
@[simp] theorem Core.setOperands_cur (f : BitVec 32) (p : BitVec 8) : (c.setOperands f p).cur = c.cur := rfl
@[simp] theorem Core.setOperands_result (f : BitVec 32) (p : BitVec 8) : (c.setOperands f p).result = c.result := rfl

@[simp] theorem Core.setFrf_seq (w : BitVec 24) : (c.setFrf w).seq = c.seq := rfl
@[simp] theorem Core.setFrf_lastErr (w : BitVec 24) : (c.setFrf w).lastErr = c.lastErr := rfl
@[simp] theorem Core.setFrf_errStep (w : BitVec 24) : (c.setFrf w).errStep = c.errStep := rfl
@[simp] theorem Core.setFrf_freqHz (w : BitVec 24) : (c.setFrf w).freqHz = c.freqHz := rfl
@[simp] theorem Core.setFrf_powerReq (w : BitVec 24) : (c.setFrf w).powerReq = c.powerReq := rfl
@[simp] theorem Core.setFrf_frf (w : BitVec 24) : (c.setFrf w).frf = w := rfl
@[simp] theorem Core.setFrf_paDac (w : BitVec 24) : (c.setFrf w).paDac = c.paDac := rfl
@[simp] theorem Core.setFrf_paConfig (w : BitVec 24) : (c.setFrf w).paConfig = c.paConfig := rfl
@[simp] theorem Core.setFrf_shadowMode (w : BitVec 24) : (c.setFrf w).shadowMode = c.shadowMode := rfl
@[simp] theorem Core.setFrf_plenCache (w : BitVec 24) : (c.setFrf w).plenCache = c.plenCache := rfl
@[simp] theorem Core.setFrf_txModeSet (w : BitVec 24) : (c.setFrf w).txModeSet = c.txModeSet := rfl
@[simp] theorem Core.setFrf_fb (w : BitVec 24) : (c.setFrf w).fb = c.fb := rfl
@[simp] theorem Core.setFrf_fifoPos (w : BitVec 24) : (c.setFrf w).fifoPos = c.fifoPos := rfl
@[simp] theorem Core.setFrf_chunkIdx (w : BitVec 24) : (c.setFrf w).chunkIdx = c.chunkIdx := rfl
@[simp] theorem Core.setFrf_cur (w : BitVec 24) : (c.setFrf w).cur = c.cur := rfl
@[simp] theorem Core.setFrf_result (w : BitVec 24) : (c.setFrf w).result = c.result := rfl

@[simp] theorem Core.setPa_seq (d g : Byte) : (c.setPa d g).seq = c.seq := rfl
@[simp] theorem Core.setPa_lastErr (d g : Byte) : (c.setPa d g).lastErr = c.lastErr := rfl
@[simp] theorem Core.setPa_errStep (d g : Byte) : (c.setPa d g).errStep = c.errStep := rfl
@[simp] theorem Core.setPa_freqHz (d g : Byte) : (c.setPa d g).freqHz = c.freqHz := rfl
@[simp] theorem Core.setPa_powerReq (d g : Byte) : (c.setPa d g).powerReq = c.powerReq := rfl
@[simp] theorem Core.setPa_frf (d g : Byte) : (c.setPa d g).frf = c.frf := rfl
@[simp] theorem Core.setPa_paDac (d g : Byte) : (c.setPa d g).paDac = d := rfl
@[simp] theorem Core.setPa_paConfig (d g : Byte) : (c.setPa d g).paConfig = g := rfl
@[simp] theorem Core.setPa_shadowMode (d g : Byte) : (c.setPa d g).shadowMode = c.shadowMode := rfl
@[simp] theorem Core.setPa_plenCache (d g : Byte) : (c.setPa d g).plenCache = c.plenCache := rfl
@[simp] theorem Core.setPa_txModeSet (d g : Byte) : (c.setPa d g).txModeSet = c.txModeSet := rfl
@[simp] theorem Core.setPa_fb (d g : Byte) : (c.setPa d g).fb = c.fb := rfl
@[simp] theorem Core.setPa_fifoPos (d g : Byte) : (c.setPa d g).fifoPos = c.fifoPos := rfl
@[simp] theorem Core.setPa_chunkIdx (d g : Byte) : (c.setPa d g).chunkIdx = c.chunkIdx := rfl
@[simp] theorem Core.setPa_cur (d g : Byte) : (c.setPa d g).cur = c.cur := rfl
@[simp] theorem Core.setPa_result (d g : Byte) : (c.setPa d g).result = c.result := rfl

@[simp] theorem Core.setShadow_seq (m : ShadowMode) : (c.setShadow m).seq = c.seq := rfl
@[simp] theorem Core.setShadow_lastErr (m : ShadowMode) : (c.setShadow m).lastErr = c.lastErr := rfl
@[simp] theorem Core.setShadow_errStep (m : ShadowMode) : (c.setShadow m).errStep = c.errStep := rfl
@[simp] theorem Core.setShadow_freqHz (m : ShadowMode) : (c.setShadow m).freqHz = c.freqHz := rfl
@[simp] theorem Core.setShadow_powerReq (m : ShadowMode) : (c.setShadow m).powerReq = c.powerReq := rfl
@[simp] theorem Core.setShadow_frf (m : ShadowMode) : (c.setShadow m).frf = c.frf := rfl
@[simp] theorem Core.setShadow_paDac (m : ShadowMode) : (c.setShadow m).paDac = c.paDac := rfl
@[simp] theorem Core.setShadow_paConfig (m : ShadowMode) : (c.setShadow m).paConfig = c.paConfig := rfl
@[simp] theorem Core.setShadow_shadowMode (m : ShadowMode) : (c.setShadow m).shadowMode = m := rfl
@[simp] theorem Core.setShadow_plenCache (m : ShadowMode) : (c.setShadow m).plenCache = c.plenCache := rfl
@[simp] theorem Core.setShadow_txModeSet (m : ShadowMode) : (c.setShadow m).txModeSet = c.txModeSet := rfl
@[simp] theorem Core.setShadow_fb (m : ShadowMode) : (c.setShadow m).fb = c.fb := rfl
@[simp] theorem Core.setShadow_fifoPos (m : ShadowMode) : (c.setShadow m).fifoPos = c.fifoPos := rfl
@[simp] theorem Core.setShadow_chunkIdx (m : ShadowMode) : (c.setShadow m).chunkIdx = c.chunkIdx := rfl
@[simp] theorem Core.setShadow_cur (m : ShadowMode) : (c.setShadow m).cur = c.cur := rfl
@[simp] theorem Core.setShadow_result (m : ShadowMode) : (c.setShadow m).result = c.result := rfl

@[simp] theorem Core.setPlen_seq (v : Option Byte) : (c.setPlen v).seq = c.seq := rfl
@[simp] theorem Core.setPlen_lastErr (v : Option Byte) : (c.setPlen v).lastErr = c.lastErr := rfl
@[simp] theorem Core.setPlen_errStep (v : Option Byte) : (c.setPlen v).errStep = c.errStep := rfl
@[simp] theorem Core.setPlen_freqHz (v : Option Byte) : (c.setPlen v).freqHz = c.freqHz := rfl
@[simp] theorem Core.setPlen_powerReq (v : Option Byte) : (c.setPlen v).powerReq = c.powerReq := rfl
@[simp] theorem Core.setPlen_frf (v : Option Byte) : (c.setPlen v).frf = c.frf := rfl
@[simp] theorem Core.setPlen_paDac (v : Option Byte) : (c.setPlen v).paDac = c.paDac := rfl
@[simp] theorem Core.setPlen_paConfig (v : Option Byte) : (c.setPlen v).paConfig = c.paConfig := rfl
@[simp] theorem Core.setPlen_shadowMode (v : Option Byte) : (c.setPlen v).shadowMode = c.shadowMode := rfl
@[simp] theorem Core.setPlen_plenCache (v : Option Byte) : (c.setPlen v).plenCache = v := rfl
@[simp] theorem Core.setPlen_txModeSet (v : Option Byte) : (c.setPlen v).txModeSet = c.txModeSet := rfl
@[simp] theorem Core.setPlen_fb (v : Option Byte) : (c.setPlen v).fb = c.fb := rfl
@[simp] theorem Core.setPlen_fifoPos (v : Option Byte) : (c.setPlen v).fifoPos = c.fifoPos := rfl
@[simp] theorem Core.setPlen_chunkIdx (v : Option Byte) : (c.setPlen v).chunkIdx = c.chunkIdx := rfl
@[simp] theorem Core.setPlen_cur (v : Option Byte) : (c.setPlen v).cur = c.cur := rfl
@[simp] theorem Core.setPlen_result (v : Option Byte) : (c.setPlen v).result = c.result := rfl

@[simp] theorem Core.setTxMode_seq (b : Bool) : (c.setTxMode b).seq = c.seq := rfl
@[simp] theorem Core.setTxMode_lastErr (b : Bool) : (c.setTxMode b).lastErr = c.lastErr := rfl
@[simp] theorem Core.setTxMode_errStep (b : Bool) : (c.setTxMode b).errStep = c.errStep := rfl
@[simp] theorem Core.setTxMode_freqHz (b : Bool) : (c.setTxMode b).freqHz = c.freqHz := rfl
@[simp] theorem Core.setTxMode_powerReq (b : Bool) : (c.setTxMode b).powerReq = c.powerReq := rfl
@[simp] theorem Core.setTxMode_frf (b : Bool) : (c.setTxMode b).frf = c.frf := rfl
@[simp] theorem Core.setTxMode_paDac (b : Bool) : (c.setTxMode b).paDac = c.paDac := rfl
@[simp] theorem Core.setTxMode_paConfig (b : Bool) : (c.setTxMode b).paConfig = c.paConfig := rfl
@[simp] theorem Core.setTxMode_shadowMode (b : Bool) : (c.setTxMode b).shadowMode = c.shadowMode := rfl
@[simp] theorem Core.setTxMode_plenCache (b : Bool) : (c.setTxMode b).plenCache = c.plenCache := rfl
@[simp] theorem Core.setTxMode_txModeSet (b : Bool) : (c.setTxMode b).txModeSet = b := rfl
@[simp] theorem Core.setTxMode_fb (b : Bool) : (c.setTxMode b).fb = c.fb := rfl
@[simp] theorem Core.setTxMode_fifoPos (b : Bool) : (c.setTxMode b).fifoPos = c.fifoPos := rfl
@[simp] theorem Core.setTxMode_chunkIdx (b : Bool) : (c.setTxMode b).chunkIdx = c.chunkIdx := rfl
@[simp] theorem Core.setTxMode_cur (b : Bool) : (c.setTxMode b).cur = c.cur := rfl
@[simp] theorem Core.setTxMode_result (b : Bool) : (c.setTxMode b).result = c.result := rfl

@[simp] theorem Core.setFb_seq (m : List Host.Cell) : (c.setFb m).seq = c.seq := rfl
@[simp] theorem Core.setFb_lastErr (m : List Host.Cell) : (c.setFb m).lastErr = c.lastErr := rfl
@[simp] theorem Core.setFb_errStep (m : List Host.Cell) : (c.setFb m).errStep = c.errStep := rfl
@[simp] theorem Core.setFb_freqHz (m : List Host.Cell) : (c.setFb m).freqHz = c.freqHz := rfl
@[simp] theorem Core.setFb_powerReq (m : List Host.Cell) : (c.setFb m).powerReq = c.powerReq := rfl
@[simp] theorem Core.setFb_frf (m : List Host.Cell) : (c.setFb m).frf = c.frf := rfl
@[simp] theorem Core.setFb_paDac (m : List Host.Cell) : (c.setFb m).paDac = c.paDac := rfl
@[simp] theorem Core.setFb_paConfig (m : List Host.Cell) : (c.setFb m).paConfig = c.paConfig := rfl
@[simp] theorem Core.setFb_shadowMode (m : List Host.Cell) : (c.setFb m).shadowMode = c.shadowMode := rfl
@[simp] theorem Core.setFb_plenCache (m : List Host.Cell) : (c.setFb m).plenCache = c.plenCache := rfl
@[simp] theorem Core.setFb_txModeSet (m : List Host.Cell) : (c.setFb m).txModeSet = c.txModeSet := rfl
@[simp] theorem Core.setFb_fb (m : List Host.Cell) : (c.setFb m).fb = m := rfl
@[simp] theorem Core.setFb_fifoPos (m : List Host.Cell) : (c.setFb m).fifoPos = c.fifoPos := rfl
@[simp] theorem Core.setFb_chunkIdx (m : List Host.Cell) : (c.setFb m).chunkIdx = c.chunkIdx := rfl
@[simp] theorem Core.setFb_cur (m : List Host.Cell) : (c.setFb m).cur = c.cur := rfl
@[simp] theorem Core.setFb_result (m : List Host.Cell) : (c.setFb m).result = c.result := rfl

@[simp] theorem Core.setFifo_seq (n k : Nat) : (c.setFifo n k).seq = c.seq := rfl
@[simp] theorem Core.setFifo_lastErr (n k : Nat) : (c.setFifo n k).lastErr = c.lastErr := rfl
@[simp] theorem Core.setFifo_errStep (n k : Nat) : (c.setFifo n k).errStep = c.errStep := rfl
@[simp] theorem Core.setFifo_freqHz (n k : Nat) : (c.setFifo n k).freqHz = c.freqHz := rfl
@[simp] theorem Core.setFifo_powerReq (n k : Nat) : (c.setFifo n k).powerReq = c.powerReq := rfl
@[simp] theorem Core.setFifo_frf (n k : Nat) : (c.setFifo n k).frf = c.frf := rfl
@[simp] theorem Core.setFifo_paDac (n k : Nat) : (c.setFifo n k).paDac = c.paDac := rfl
@[simp] theorem Core.setFifo_paConfig (n k : Nat) : (c.setFifo n k).paConfig = c.paConfig := rfl
@[simp] theorem Core.setFifo_shadowMode (n k : Nat) : (c.setFifo n k).shadowMode = c.shadowMode := rfl
@[simp] theorem Core.setFifo_plenCache (n k : Nat) : (c.setFifo n k).plenCache = c.plenCache := rfl
@[simp] theorem Core.setFifo_txModeSet (n k : Nat) : (c.setFifo n k).txModeSet = c.txModeSet := rfl
@[simp] theorem Core.setFifo_fb (n k : Nat) : (c.setFifo n k).fb = c.fb := rfl
@[simp] theorem Core.setFifo_fifoPos (n k : Nat) : (c.setFifo n k).fifoPos = n := rfl
@[simp] theorem Core.setFifo_chunkIdx (n k : Nat) : (c.setFifo n k).chunkIdx = k := rfl
@[simp] theorem Core.setFifo_cur (n k : Nat) : (c.setFifo n k).cur = c.cur := rfl
@[simp] theorem Core.setFifo_result (n k : Nat) : (c.setFifo n k).result = c.result := rfl

@[simp] theorem Core.setCur_seq (u : Cur) : (c.setCur u).seq = c.seq := rfl
@[simp] theorem Core.setCur_lastErr (u : Cur) : (c.setCur u).lastErr = c.lastErr := rfl
@[simp] theorem Core.setCur_errStep (u : Cur) : (c.setCur u).errStep = c.errStep := rfl
@[simp] theorem Core.setCur_freqHz (u : Cur) : (c.setCur u).freqHz = c.freqHz := rfl
@[simp] theorem Core.setCur_powerReq (u : Cur) : (c.setCur u).powerReq = c.powerReq := rfl
@[simp] theorem Core.setCur_frf (u : Cur) : (c.setCur u).frf = c.frf := rfl
@[simp] theorem Core.setCur_paDac (u : Cur) : (c.setCur u).paDac = c.paDac := rfl
@[simp] theorem Core.setCur_paConfig (u : Cur) : (c.setCur u).paConfig = c.paConfig := rfl
@[simp] theorem Core.setCur_shadowMode (u : Cur) : (c.setCur u).shadowMode = c.shadowMode := rfl
@[simp] theorem Core.setCur_plenCache (u : Cur) : (c.setCur u).plenCache = c.plenCache := rfl
@[simp] theorem Core.setCur_txModeSet (u : Cur) : (c.setCur u).txModeSet = c.txModeSet := rfl
@[simp] theorem Core.setCur_fb (u : Cur) : (c.setCur u).fb = c.fb := rfl
@[simp] theorem Core.setCur_fifoPos (u : Cur) : (c.setCur u).fifoPos = c.fifoPos := rfl
@[simp] theorem Core.setCur_chunkIdx (u : Cur) : (c.setCur u).chunkIdx = c.chunkIdx := rfl
@[simp] theorem Core.setCur_cur (u : Cur) : (c.setCur u).cur = u := rfl
@[simp] theorem Core.setCur_result (u : Cur) : (c.setCur u).result = c.result := rfl

@[simp] theorem Core.setResult_seq (r : Option (List Byte)) : (c.setResult r).seq = c.seq := rfl
@[simp] theorem Core.setResult_lastErr (r : Option (List Byte)) : (c.setResult r).lastErr = c.lastErr := rfl
@[simp] theorem Core.setResult_errStep (r : Option (List Byte)) : (c.setResult r).errStep = c.errStep := rfl
@[simp] theorem Core.setResult_freqHz (r : Option (List Byte)) : (c.setResult r).freqHz = c.freqHz := rfl
@[simp] theorem Core.setResult_powerReq (r : Option (List Byte)) : (c.setResult r).powerReq = c.powerReq := rfl
@[simp] theorem Core.setResult_frf (r : Option (List Byte)) : (c.setResult r).frf = c.frf := rfl
@[simp] theorem Core.setResult_paDac (r : Option (List Byte)) : (c.setResult r).paDac = c.paDac := rfl
@[simp] theorem Core.setResult_paConfig (r : Option (List Byte)) : (c.setResult r).paConfig = c.paConfig := rfl
@[simp] theorem Core.setResult_shadowMode (r : Option (List Byte)) : (c.setResult r).shadowMode = c.shadowMode := rfl
@[simp] theorem Core.setResult_plenCache (r : Option (List Byte)) : (c.setResult r).plenCache = c.plenCache := rfl
@[simp] theorem Core.setResult_txModeSet (r : Option (List Byte)) : (c.setResult r).txModeSet = c.txModeSet := rfl
@[simp] theorem Core.setResult_fb (r : Option (List Byte)) : (c.setResult r).fb = c.fb := rfl
@[simp] theorem Core.setResult_fifoPos (r : Option (List Byte)) : (c.setResult r).fifoPos = c.fifoPos := rfl
@[simp] theorem Core.setResult_chunkIdx (r : Option (List Byte)) : (c.setResult r).chunkIdx = c.chunkIdx := rfl
@[simp] theorem Core.setResult_cur (r : Option (List Byte)) : (c.setResult r).cur = c.cur := rfl
@[simp] theorem Core.setResult_result (r : Option (List Byte)) : (c.setResult r).result = r := rfl

@[simp] theorem Core.endSession_seq : c.endSession.seq = c.seq := rfl
@[simp] theorem Core.endSession_lastErr : c.endSession.lastErr = c.lastErr := rfl
@[simp] theorem Core.endSession_errStep : c.endSession.errStep = c.errStep := rfl
@[simp] theorem Core.endSession_freqHz : c.endSession.freqHz = c.freqHz := rfl
@[simp] theorem Core.endSession_powerReq : c.endSession.powerReq = c.powerReq := rfl
@[simp] theorem Core.endSession_frf : c.endSession.frf = c.frf := rfl
@[simp] theorem Core.endSession_paDac : c.endSession.paDac = c.paDac := rfl
@[simp] theorem Core.endSession_paConfig : c.endSession.paConfig = c.paConfig := rfl
@[simp] theorem Core.endSession_shadowMode : c.endSession.shadowMode = .unknown := rfl
@[simp] theorem Core.endSession_plenCache : c.endSession.plenCache = none := rfl
@[simp] theorem Core.endSession_txModeSet : c.endSession.txModeSet = false := rfl
@[simp] theorem Core.endSession_fb : c.endSession.fb = c.fb := rfl
@[simp] theorem Core.endSession_fifoPos : c.endSession.fifoPos = c.fifoPos := rfl
@[simp] theorem Core.endSession_chunkIdx : c.endSession.chunkIdx = c.chunkIdx := rfl
@[simp] theorem Core.endSession_cur : c.endSession.cur = c.cur := rfl
@[simp] theorem Core.endSession_result : c.endSession.result = c.result := rfl

@[simp] theorem State.withCore_params (d : Core) : (s.withCore d).params = s.params := rfl
@[simp] theorem State.withCore_core (d : Core) : (s.withCore d).core = d := rfl
@[simp] theorem State.withCore_trace (d : Core) : (s.withCore d).trace = s.trace := rfl
@[simp] theorem State.withCore_host (d : Core) : (s.withCore d).host = s.host := rfl
@[simp] theorem State.withCore_env (d : Core) : (s.withCore d).env = s.env := rfl
@[simp] theorem State.withCore_unit (d : Core) : (s.withCore d).unit = s.unit := rfl
@[simp] theorem State.withCore_unitOut (d : Core) : (s.withCore d).unitOut = s.unitOut := rfl
@[simp] theorem State.withCore_resetReq (d : Core) : (s.withCore d).resetReq = s.resetReq := rfl

@[simp] theorem State.emit_params (e : Event) : (s.emit e).params = s.params := rfl
@[simp] theorem State.emit_core (e : Event) : (s.emit e).core = s.core := rfl
@[simp] theorem State.emit_trace (e : Event) : (s.emit e).trace = s.trace ++ [e] := rfl
@[simp] theorem State.emit_host (e : Event) : (s.emit e).host = s.host := rfl
@[simp] theorem State.emit_env (e : Event) : (s.emit e).env = s.env := rfl
@[simp] theorem State.emit_unit (e : Event) : (s.emit e).unit = s.unit := rfl
@[simp] theorem State.emit_unitOut (e : Event) : (s.emit e).unitOut = s.unitOut := rfl
@[simp] theorem State.emit_resetReq (e : Event) : (s.emit e).resetReq = s.resetReq := rfl

@[simp] theorem State.returns_params (bs : List Byte) : (s.returns bs).params = s.params := rfl
@[simp] theorem State.returns_core (bs : List Byte) : (s.returns bs).core = s.core := rfl
@[simp] theorem State.returns_trace (bs : List Byte) : (s.returns bs).trace = s.trace := rfl
@[simp] theorem State.returns_host (bs : List Byte) : (s.returns bs).host = s.host := rfl
@[simp] theorem State.returns_env (bs : List Byte) : (s.returns bs).env = s.env := rfl
@[simp] theorem State.returns_unit (bs : List Byte) : (s.returns bs).unit = s.unit := rfl
@[simp] theorem State.returns_unitOut (bs : List Byte) : (s.returns bs).unitOut = bs := rfl
@[simp] theorem State.returns_resetReq (bs : List Byte) : (s.returns bs).resetReq = s.resetReq := rfl

end Sys2Proof.Machine
end

