-- ==== Sys2Proof/Laws/Ops.lean ====
section
/-! SUPPORT. What the shared operations can do: transactions, the error exit and command acceptance. -/

namespace Sys2Proof.Machine

/-! ## Transactions -/

/-- The state after a list of writes that all ended `Ok`. -/
theorem issue_allOk : ∀ (outs : List (List Byte)) (s : State) (bs : List Byte) (e : List Answer),
    bs.length = outs.length → s.env = allOk bs ++ e →
    issue outs s = .done { s with env := e, trace := s.trace ++ outs.map okWrite }
  | [], s, bs, e, hl, he => by
    simp only [List.length_nil, List.length_eq_zero_iff] at hl
    subst hl
    simp only [allOk, List.map_nil, List.nil_append] at he
    subst he
    simp [issue]
  | out :: outs, s, [], e, hl, he => by simp at hl
  | out :: outs, s, b :: bs, e, hl, he => by
    simp only [allOk, List.map_cons, List.cons_append] at he
    simp only [issue, he]
    rw [issue_allOk outs _ bs e (by simpa using hl) rfl]
    simp [outcomeOf, okWrite, State.emit]

/-- The state after the first failure. -/
theorem issue_failed : ∀ (outs : List (List Byte)) (s : State) (bs out : List Byte) (rest : List (List Byte)) (k : Nat)
    (e : List Answer), outs.drop bs.length = out :: rest → s.env = allOk bs ++ .fail k :: e →
    issue outs s = .failed { s with env := e, trace := s.trace ++ (outs.take bs.length).map okWrite ++
      [.txn out 0 (.fail (min k out.length))] }
  | [], s, bs, out, rest, k, e, hd, he => by simp at hd
  | o :: outs, s, [], out, rest, k, e, hd, he => by
    simp only [List.length_nil, List.drop_zero, List.cons.injEq] at hd
    obtain ⟨rfl, rfl⟩ := hd
    simp only [allOk, List.map_nil, List.nil_append] at he
    simp [issue, he, outcomeOf, State.emit]
  | o :: outs, s, b :: bs, out, rest, k, e, hd, he => by
    simp only [allOk, List.map_cons, List.cons_append] at he
    simp only [issue, he]
    rw [issue_failed outs _ bs out rest k e (by simpa using hd) rfl]
    simp [outcomeOf, okWrite, State.emit]

/-- Too few answers, none a failure. -/
theorem issue_unanswered : ∀ (outs : List (List Byte)) (s : State) (bs : List Byte),
    bs.length < outs.length → s.env = allOk bs → issue outs s = .unanswered
  | [], s, bs, hl, he => by simp at hl
  | out :: outs, s, [], hl, he => by
    simp only [allOk, List.map_nil] at he
    simp [issue, he]
  | out :: outs, s, b :: bs, hl, he => by
    simp only [allOk, List.map_cons] at he
    simp only [issue, he]
    exact issue_unanswered outs _ bs (by simpa using hl) rfl

/-- The three ways a list of writes can go, and with which answers. -/
theorem issue_cases : ∀ (outs : List (List Byte)) (s : State),
    (∃ bs e, bs.length = outs.length ∧ s.env = allOk bs ++ e ∧
      issue outs s = .done { s with env := e, trace := s.trace ++ outs.map okWrite }) ∨
    (∃ bs out rest k e, outs.drop bs.length = out :: rest ∧ s.env = allOk bs ++ .fail k :: e ∧
      issue outs s = .failed { s with env := e, trace := s.trace ++ (outs.take bs.length).map okWrite ++
        [.txn out 0 (.fail (min k out.length))] }) ∨
    (∃ bs, bs.length < outs.length ∧ s.env = allOk bs ∧ issue outs s = .unanswered)
  | [], s => .inl ⟨[], s.env, rfl, rfl, by simp [issue]⟩
  | out :: outs, s => by
    cases he : s.env with
    | nil => exact .inr (.inr ⟨[], by simp, by simp [allOk], by simp [issue, he]⟩)
    | cons a env' =>
      cases a with
      | fail k =>
        exact .inr (.inl ⟨[], out, outs, k, env', by simp, by simp [allOk],
          issue_failed (out :: outs) s [] out outs k env' (by simp) (by simp [allOk, he])⟩)
      | ok b =>
        have step : issue (out :: outs) s =
            issue outs (State.emit { s with env := env' } (.txn out 0 (outcomeOf out.length 0 (.ok b)))) := by
          simp [issue, he]
        rcases issue_cases outs (State.emit { s with env := env' } (.txn out 0 (outcomeOf out.length 0 (.ok b)))) with
          ⟨bs, e, h1, h2, -⟩ | ⟨bs, o, rest, k, e, h1, h2, -⟩ | ⟨bs, h1, h2, h3⟩
        · have h2 : env' = allOk bs ++ e := h2
          exact .inl ⟨b :: bs, e, by simp [h1], by simp [allOk, h2],
            issue_allOk _ s (b :: bs) e (by simp [h1]) (by simp [allOk, he, h2])⟩
        · have h2 : env' = allOk bs ++ .fail k :: e := h2
          exact .inr (.inl ⟨b :: bs, o, rest, k, e, by simpa using h1, by simp [allOk, h2],
            issue_failed _ s (b :: bs) o rest k e (by simpa using h1) (by simp [allOk, he, h2])⟩)
        · have h2 : env' = allOk bs := h2
          exact .inr (.inr ⟨b :: bs, by simpa using h1, by simp [allOk, h2], by rw [step, h3]⟩)

/-- A step that issues writes answers a next state, always: finished, failed at the first failing write, or waiting. -/
theorem runWrites_cases (outs : List (List Byte)) (s s0 : State) (finish : State → State) :
    (∃ bs e, bs.length = outs.length ∧ s0.env = allOk bs ++ e ∧
      runWrites outs s s0 finish =
        .next (finish { s0 with env := e, trace := s0.trace ++ outs.map okWrite })) ∨
    (∃ bs out rest k e, outs.drop bs.length = out :: rest ∧ s0.env = allOk bs ++ .fail k :: e ∧
      runWrites outs s s0 finish = .next (raiseErr .transportFailure s.core.seq
        { s0 with env := e, trace := s0.trace ++ (outs.take bs.length).map okWrite ++
          [.txn out 0 (.fail (min k out.length))] })) ∨
    (∃ bs, bs.length < outs.length ∧ s0.env = allOk bs ∧ runWrites outs s s0 finish = .next s) := by
  rcases issue_cases outs s0 with ⟨bs, e, h1, h2, h3⟩ | ⟨bs, out, rest, k, e, h1, h2, h3⟩ | ⟨bs, h1, h2, h3⟩
  · exact .inl ⟨bs, e, h1, h2, by simp [runWrites, h3]⟩
  · exact .inr (.inl ⟨bs, out, rest, k, e, h1, h2, by simp [runWrites, h3]⟩)
  · exact .inr (.inr ⟨bs, h1, h2, by simp [runWrites, h3]⟩)

/-! ## The error exit -/

theorem raiseErr_execution {e : Err} (h : endsSession e = true) (q : Seq) (s : State) :
    raiseErr e q s = { s with core := { sessionLost s.core (errCode e) with errStep := q } } := by
  simp [raiseErr, h, State.withCore, Core.setErr, Core.setSeq, Core.endSession, Core.setShadow, Core.setPlen,
    Core.setTxMode, sessionLost]

theorem raiseErr_acceptance {e : Err} (h : endsSession e = false) (q : Seq) (s : State) :
    raiseErr e q s = { s with core := { s.core with lastErr := errCode e, errStep := q } } := by
  simp [raiseErr, h, State.withCore, Core.setErr]

theorem raiseErr_transportFailure (s t : State) (h : t.core.seq = s.core.seq) :
    raiseErr .transportFailure s.core.seq t = { t with core := sessionLost t.core 1 } := by
  rw [raiseErr_execution rfl]; simp [sessionLost, errCode, h]

/-- A step that issues writes, in the words of the statements: all `Ok`, or the first failure. -/
theorem runWrites_inOrder {i : Instr} {s : State} {outs : List (List Byte)} {started finished : Core}
    {finish : State → State} (hx : exec i s = runWrites outs s { s with core := started } finish)
    (hs : started.seq = s.core.seq)
    (hf : ∀ t : State, t.core = started → finish t = { t with core := finished }) :
    WritesInOrder i s outs started finished := by
  constructor
  · intro bs e hl he
    rw [hx, runWrites, issue_allOk outs { s with core := started } bs e hl he]
    simp only
    rw [hf _ rfl]
  · intro bs out rest k e hd he hk
    rw [hx, runWrites, issue_failed outs { s with core := started } bs out rest k e hd he]
    simp only
    rw [raiseErr_transportFailure s _ hs, Nat.min_eq_left hk]

/-! ## Command acceptance -/

theorem accept_idle {s : State} {body : State → Out} (h : idle s.core) : accept s body = body (clearForCommand s) := by
  rcases h with h | h <;> simp [accept, h]

theorem accept_busy {s : State} {body : State → Out} (h : busy s.core.seq = true) : accept s body = .next s := by
  cases hs : s.core.seq <;> simp [busy, hs] at h <;> simp [accept, hs]

theorem clearForCommand_eq (s : State) : clearForCommand s = { s with core := accepted s.core } := by
  simp [clearForCommand, State.withCore, Core.setResult, Core.setErr, accepted]

/-- A command refused after the common acceptance. -/
theorem refuseCommand_cleared {e : Err} (h : endsSession e = false) (s : State) :
    refuseCommand e (clearForCommand s) = .next { s with core := refusedWith s.core (errCode e) } := by
  rw [refuseCommand, raiseErr_acceptance h, clearForCommand_eq]; rfl

end Sys2Proof.Machine
end

