-- ==== Sys2Proof/Laws/Commands.lean ====
section
/-! SUPPORT. The host commands: what acceptance answers from an idle state, and when operands are in range. -/

namespace Sys2Proof.Machine

/-! ## The commands over the shared acceptance -/

theorem exec_configure (d : Bool) (p : BitVec 8) (f : BitVec 32) (s : State) :
    exec (.configure d p f) s = accept s (startConfigure (freqOperand d f) (powerOperand d p)) := rfl

theorem exec_configureDefault (s : State) :
    exec .configureDefault s = accept s (startConfigure defaultFreqHz defaultPower) := rfl

theorem exec_transmit (x y z : Byte) (s : State) : exec (.transmit x y z) s = accept s (gated x y z startTransmit) := rfl

theorem exec_on (x y : Byte) (s : State) : exec (.on x y) s = accept s (gated x y 1 startTransmit) := rfl

theorem exec_off (x y : Byte) (s : State) : exec (.off x y) s = accept s (gated x y 0 startTransmit) := rfl

theorem exec_buildFrameCmd (x y z : Byte) (s : State) :
    exec (.buildFrameCmd x y z) s = accept s (gated x y z startBuildFrame) := rfl

theorem exec_illegal (w : CmdWord) (s : State) : exec (.illegal w) s = accept s (refuseCommand .illegalCommand) := rfl

/-! ## Operands -/

theorem txOperands_none_iff (x y z : Byte) :
    txOperands x y z = none ↔ (31 < x.toNat ∨ 4 < y.toNat ∨ 1 < z.toNat) := by
  have h1 : ∀ d : Byte, deviceOf d = none ↔ 4 < d.toNat := by decide
  have h2 : ∀ d : Byte, actionOf d = none ↔ 1 < d.toNat := by decide
  have h3 : ∀ d : Byte, addrOf d = none ↔ 31 < d.toNat := by decide
  rw [← h1, ← h2, ← h3, txOperands]
  cases addrOf x <;> cases deviceOf y <;> cases actionOf z <;> simp

theorem txOperands_fields (a : NetAddr) (d : Device) (c : Action) :
    txOperands (a.setWidth 8) (devByte d) (actByte c) = some (a, d, c) := by
  have h1 : deviceOf (devByte d) = some d := by cases d <;> rfl
  have h2 : actionOf (actByte c) = some c := by cases c <;> rfl
  have h3 : ∀ a : NetAddr, addrOf (a.setWidth 8) = some a := by decide
  rw [txOperands, h1, h2, h3]

/-- The frequency word in the rule's own order of terms (R142). -/
theorem frfWord_eq (hz : Nat) : frfWord hz = (hz * 16384 + 500000) / 1000000 := by
  unfold frfWord; omega

theorem freqValid_iff (f : BitVec 32) : freqValid f = true ↔ f.toNat ≤ 1023999969 := by
  unfold freqValid frfWord
  rw [decide_eq_true_iff]
  omega

/-! ## Acceptance from an idle state -/

theorem accept_idle' {s : State} {body : State → Out} (h : idle s.core) :
    accept s body = body { s with core := accepted s.core } := by
  rw [accept_idle h, clearForCommand_eq]

theorem refuseCommand_accepted {e : Err} (h : endsSession e = false) (s : State) :
    refuseCommand e { s with core := accepted s.core } = .next { s with core := refusedWith s.core (errCode e) } := by
  rw [← clearForCommand_eq]; exact refuseCommand_cleared h s

/-- CONFIGURE's two answers. -/
theorem accept_configure {s : State} (h : idle s.core) (f : BitVec 32) (p : BitVec 8) :
    accept s (startConfigure f p) =
      if freqValid f then .next { s with core := { accepted s.core with
        cur := .configure, freqHz := f, powerReq := p, shadowMode := .unknown, plenCache := none, txModeSet := false, seq := .cReset } }
      else .next { s with core := refusedWith s.core 2 } := by
  rw [accept_idle' h, startConfigure]
  split
  · rfl
  · exact refuseCommand_accepted rfl s

/-- The three answers of TRANSMIT and BUILD_FRAME. -/
theorem accept_gated {s : State} (h : idle s.core) (x y z : Byte) (go : NetAddr → Device → Action → State → State) :
    accept s (gated x y z go) =
      match txOperands x y z with
      | none => .next { s with core := refusedWith s.core 2 }
      | some (a, d, c) =>
        if s.core.seq = .idleReady then .next (go a d c { s with core := accepted s.core })
        else .next { s with core := refusedWith s.core 3 } := by
  rw [accept_idle' h, gated]
  cases txOperands x y z with
  | none => exact refuseCommand_accepted rfl s
  | some o =>
    obtain ⟨a, d, c⟩ := o
    have hq : cfgDone (accepted s.core).seq = decide (s.core.seq = .idleReady) := by
      rcases h with h | h <;> simp [accepted, h, cfgDone]
    simp only [hq, decide_eq_true_eq]
    split
    · rfl
    · exact refuseCommand_accepted (e := .configNotComplete) rfl s

/-- An illegal word's one answer. -/
theorem accept_illegal {s : State} (h : idle s.core) :
    accept s (refuseCommand .illegalCommand) = .next { s with core := refusedWith s.core 4 } := by
  rw [accept_idle' h]; exact refuseCommand_accepted rfl s

end Sys2Proof.Machine
end

