-- ==== Sys2Proof/Laws/Exec.lean ====
section
/-! SUPPORT. What every instruction leaves alone, and when the transmit steps and the acceptance answer. -/

namespace Sys2Proof.Machine

/-- Two states agree on everything but the core's record, the trace, the environment's answers and the returned value. -/
def sameInputs (s t : State) : Prop :=
  t.params = s.params ∧ t.host = s.host ∧ t.unit = s.unit ∧ t.resetReq = s.resetReq

theorem withCore_inputs (s : State) (c : Core) : sameInputs s (s.withCore c) := ⟨rfl, rfl, rfl, rfl⟩

theorem raiseErr_inputs (e : Err) (q : Seq) (s : State) : sameInputs s (raiseErr e q s) := by
  unfold raiseErr; split <;> exact ⟨rfl, rfl, rfl, rfl⟩

theorem sameInputs.trans {s t u : State} (h : sameInputs s t) (k : sameInputs t u) : sameInputs s u :=
  ⟨k.1.trans h.1, k.2.1.trans h.2.1, k.2.2.1.trans h.2.2.1, k.2.2.2.trans h.2.2.2⟩

theorem runWrites_inputs {outs : List (List Byte)} {s s0 t : State} {finish : State → State} (h0 : sameInputs s s0)
    (hf : ∀ u, sameInputs u (finish u)) (h : runWrites outs s s0 finish = .next t) : sameInputs s t := by
  rcases runWrites_cases outs s s0 finish with ⟨bs, e, -, -, hx⟩ | ⟨bs, o, r, k, e, -, -, hx⟩ | ⟨bs, -, -, hx⟩
  · rw [hx] at h; cases h
    exact h0.trans ((show sameInputs s0 _ from ⟨rfl, rfl, rfl, rfl⟩).trans (hf _))
  · rw [hx] at h; cases h
    exact h0.trans ((show sameInputs s0 _ from ⟨rfl, rfl, rfl, rfl⟩).trans (raiseErr_inputs _ _ _))
  · rw [hx] at h; cases h; exact ⟨rfl, rfl, rfl, rfl⟩

theorem accept_inputs {s t : State} {body : State → Out} (hb : ∀ u v, body u = .next v → sameInputs u v)
    (h : accept s body = .next t) : sameInputs s t := by
  have hc : sameInputs s (clearForCommand s) := ⟨rfl, rfl, rfl, rfl⟩
  cases hs : s.core.seq <;> simp [accept, hs] at h
  case idleUnconf => exact hc.trans (hb _ _ h)
  case idleReady => exact hc.trans (hb _ _ h)
  all_goals subst h; exact ⟨rfl, rfl, rfl, rfl⟩

theorem refuseCommand_inputs {e : Err} {s t : State} (h : refuseCommand e s = .next t) : sameInputs s t := by
  cases h; exact raiseErr_inputs _ _ _

theorem gated_inputs {addr dev act : Byte} {go : NetAddr → Device → Action → State → State} {s t : State}
    (hg : ∀ a d c u, sameInputs u (go a d c u)) (h : gated addr dev act go s = .next t) : sameInputs s t := by
  unfold gated at h
  split at h
  · exact refuseCommand_inputs h
  · split at h
    · cases h; exact hg _ _ _ _
    · exact refuseCommand_inputs h

theorem configureOp_inputs {d : Bool} {pwr : BitVec 8} {freq : BitVec 32} {s t : State}
    (h : configureOp d pwr freq s = .next t) : sameInputs s t := by
  refine accept_inputs (fun u v hv => ?_) h
  unfold startConfigure at hv
  split at hv
  · cases hv; exact ⟨rfl, rfl, rfl, rfl⟩
  · exact refuseCommand_inputs hv

theorem startTransmit_inputs (a : NetAddr) (d : Device) (c : Action) (s : State) :
    sameInputs s (startTransmit a d c s) := by
  exact withCore_inputs s _

theorem transmitOp_inputs {addr dev act : Byte} {s t : State} (h : transmitOp addr dev act s = .next t) : sameInputs s t :=
  accept_inputs (fun _ _ hv => gated_inputs (go := startTransmit) startTransmit_inputs hv) h

theorem startBuildFrame_inputs (a : NetAddr) (d : Device) (c : Action) (s : State) :
    sameInputs s (startBuildFrame a d c s) := by
  exact (withCore_inputs s _).trans (withCore_inputs _ _)

theorem requireSleep_inputs {s t : State} {body : Out} (hb : body = .next t → sameInputs s t)
    (h : requireSleep s body = .next t) : sameInputs s t := by
  unfold requireSleep at h
  split at h
  · exact hb h
  · cases h; exact raiseErr_inputs _ _ _

/-- No instruction writes the configuration, the host's words, the presented operation or the pending reset. -/
theorem exec_inputs {i : Instr} {s t : State} (h : exec i s = .next t) : sameInputs s t := by
  have refl : ∀ u : State, sameInputs u u := fun _ => ⟨rfl, rfl, rfl, rfl⟩
  have wr : ∀ {outs : List (List Byte)} {finish : State → State}, (∀ u, sameInputs u (finish u)) →
      runWrites outs s s finish = .next t → sameInputs s t := fun hf hx => runWrites_inputs (refl s) hf hx
  have keep : ∀ u : State, ∀ q, sameInputs u (advance q u) := fun _ _ => ⟨rfl, rfl, rfl, rfl⟩
  cases i with
  | configure d p f => exact configureOp_inputs h
  | configureDefault => exact configureOp_inputs h
  | transmit x y z => exact transmitOp_inputs h
  | on x y => exact transmitOp_inputs h
  | off x y => exact transmitOp_inputs h
  | buildFrameCmd x y z =>
    exact accept_inputs (fun _ _ hv => gated_inputs (go := startBuildFrame) startBuildFrame_inputs hv) h
  | illegal w => exact accept_inputs (fun _ _ hv => refuseCommand_inputs hv) h
  | cReset => cases h; exact ⟨rfl, rfl, rfl, rfl⟩
  | cSleep => refine wr ?_ h; exact fun _ => ⟨rfl, rfl, rfl, rfl⟩
  | cBitrate => exact requireSleep_inputs (wr (keep · _)) h
  | cFreq =>
    exact requireSleep_inputs (runWrites_inputs (withCore_inputs s _) (keep · _)) h
  | cPower =>
    refine runWrites_inputs ?_ ?_ h
    · exact ⟨rfl, rfl, rfl, rfl⟩
    · exact (keep · _)
  | cStandby => refine wr ?_ h; exact fun _ => ⟨rfl, rfl, rfl, rfl⟩
  | cPreamble => exact wr (keep · _) h
  | cPacket => exact wr (keep · _) h
  | cPayload => refine wr ?_ h; exact fun _ => ⟨rfl, rfl, rfl, rfl⟩
  | cShaping => exact wr (keep · _) h
  | tPayload =>
    change execTPayload s = _ at h
    unfold execTPayload at h
    split at h
    · cases h; exact keep _ _
    · refine wr ?_ h; exact fun _ => ⟨rfl, rfl, rfl, rfl⟩
  | tMode =>
    change execTMode s = _ at h
    unfold execTMode at h
    split at h
    · cases h; exact keep _ _
    · refine wr ?_ h; exact fun _ => ⟨rfl, rfl, rfl, rfl⟩
  | tFifo =>
    change execTFifo s = _ at h
    unfold execTFifo at h
    split at h
    · cases h
    · split at h
      · cases h
      · refine wr ?_ h; exact fun _ => ⟨rfl, rfl, rfl, rfl⟩
  | wr a v => exact wr refl h
  | wrBurst a bs =>
    change execWrBurst a bs s = _ at h
    unfold execWrBurst at h
    split at h
    · cases h
    · exact wr refl h
  | rd a =>
    change execRd a s = _ at h
    simp only [execRd] at h
    split at h
    · cases h; exact refl _
    · cases h; exact ⟨rfl, rfl, rfl, rfl⟩
    · cases h; exact (show sameInputs s _ from ⟨rfl, rfl, rfl, rfl⟩).trans (raiseErr_inputs _ _ _)
  | zero => cases h; exact ⟨rfl, rfl, rfl, rfl⟩
  | one => cases h; exact ⟨rfl, rfl, rfl, rfl⟩
  | silence => cases h; exact ⟨rfl, rfl, rfl, rfl⟩
  | cmdPacket a d c => cases h; exact ⟨rfl, rfl, rfl, rfl⟩
  | endPacket a => cases h; exact ⟨rfl, rfl, rfl, rfl⟩
  | buildFrame a d c => cases h; exact ⟨rfl, rfl, rfl, rfl⟩

/-- What a step that answers a next state did: it took a reset, stayed, or ran the fetched instruction. -/
theorem step_cases {s t : State} (h : step s = .next t) :
    paramsWf s.params = true ∧
    ((s.resetReq = true ∧ t = coreReset s) ∨
     (s.resetReq = false ∧ errReserved s.core.lastErr = false ∧
      ((fetch s = .idle ∧ t = s) ∨ (fetch s = .wait ∧ t = s) ∨ ∃ i u, fetch s = .run i u ∧ exec i u = .next t))) := by
  unfold step at h
  cases hp : paramsWf s.params <;> simp [hp] at h
  refine ⟨rfl, ?_⟩
  cases hr : s.resetReq <;> simp [hr] at h
  · right
    cases he : errReserved s.core.lastErr <;> simp [he] at h
    refine ⟨rfl, rfl, ?_⟩
    split at h
    · next hf => cases h; exact .inl ⟨hf, rfl⟩
    · next hf => cases h; exact .inr (.inl ⟨hf, rfl⟩)
    · cases h
    · cases h
    · next i u hf => exact .inr (.inr ⟨i, u, hf, h⟩)
  · exact .inl ⟨rfl, h.symm⟩

/-- Where a fetched instruction comes from, and what the fetch takes out of the state. -/
theorem fetch_cases {s u : State} {i : Instr} (h : fetch s = .run i u) :
    (∃ r, s.unit = some r ∧ decodeUnit r = .instr i ∧ u = { s with unit := none }) ∨
    (s.unit = none ∧ decodeStep (seqCode s.core.seq) = .instr i ∧ u = s) ∨
    (s.unit = none ∧ idle s.core ∧ ∃ w ws, s.host = w :: ws ∧ i = decodeCmd w ∧ u = { s with host := ws }) := by
  unfold fetch at h
  split at h
  · next r hu =>
    left
    unfold fetchUnit at h
    split at h
    · cases h
    · next j hd =>
      split at h
      · cases h
      · cases h; exact ⟨r, hu, hd, rfl⟩
  · next hu =>
    right
    split at h
    · next j hd => cases h; exact .inl ⟨hu, hd, rfl⟩
    · cases h
    · next r hr hd =>
      right
      unfold fetchCommand at h
      split at h
      · cases h
      · next w ws hw =>
        cases h
        refine ⟨hu, ?_, w, ws, hw, rfl, rfl⟩
        cases hs : s.core.seq <;> simp [hs, seqCode, decodeStep] at hd hr ⊢ <;> simp_all [idle]

/-- The operations a leaf block runs. -/
theorem decodeUnit_cases {r : UnitReq} {i : Instr} (h : decodeUnit r = .instr i) :
    (∃ a v, i = .wr a v) ∨ (∃ a bs, bs ≠ [] ∧ i = .wrBurst a bs) ∨ (∃ a, i = .rd a) ∨
    i = .zero ∨ i = .one ∨ i = .silence ∨ (∃ a d c, i = .cmdPacket a d c) ∨ (∃ a, i = .endPacket a) ∨
    ∃ a d c, i = .buildFrame a d c := by
  cases r with
  | txn bs =>
    simp only [decodeUnit] at h
    unfold decodeTxn at h
    split at h
    · split at h
      · split at h <;> cases h
        · exact .inl ⟨_, _, rfl⟩
        · exact .inr (.inl ⟨_, _, by simp, rfl⟩)
      · split at h <;> cases h
        exact .inr (.inr (.inl ⟨_, rfl⟩))
    · cases h
  | symbol n =>
    simp only [decodeUnit] at h
    unfold decodeSymbol at h
    repeat' split at h
    all_goals cases h
    · simp
    · simp
    · simp
  | packet bs =>
    simp only [decodeUnit] at h
    unfold decodePacket at h
    repeat' split at h
    all_goals cases h
    · simp
    · simp
  | frame bs =>
    simp only [decodeUnit] at h
    unfold decodeFrame at h
    repeat' split at h
    all_goals cases h
    simp

end Sys2Proof.Machine
end

