-- ==== Sys2Proof/Laws/PerInstr.lean ====
section
/-! SUPPORT. Statements made for every instruction, one lemma per constructor. -/

namespace Sys2Proof.Laws

/-- The expansion of an instruction (R88, R90) has its encoding, is its own expansion, and is well-formed if the
instruction is. -/
def ExpandSound.Statement (i : Instr) : Prop :=
  encode (expand i) = encode i ∧ expand (expand i) = expand i ∧ (wellFormed i = true → wellFormed (expand i) = true)

theorem ExpandSound.configure (d : Bool) (pwr : BitVec 8) (freq : BitVec 32) : ExpandSound.Statement (.configure d pwr freq) :=
  ⟨rfl, rfl, id⟩

theorem ExpandSound.transmit (addr dev act : Byte) : ExpandSound.Statement (.transmit addr dev act) := ⟨rfl, rfl, id⟩

theorem ExpandSound.buildFrameCmd (addr dev act : Byte) : ExpandSound.Statement (.buildFrameCmd addr dev act) :=
  ⟨rfl, rfl, id⟩

theorem ExpandSound.configureDefault : ExpandSound.Statement .configureDefault := ⟨by decide, rfl, fun _ => rfl⟩

theorem ExpandSound.on (addr dev : Byte) : ExpandSound.Statement (.on addr dev) := ⟨rfl, rfl, fun _ => rfl⟩

theorem ExpandSound.off (addr dev : Byte) : ExpandSound.Statement (.off addr dev) := ⟨rfl, rfl, fun _ => rfl⟩

theorem ExpandSound.illegal (w : CmdWord) : ExpandSound.Statement (.illegal w) := ⟨rfl, rfl, id⟩

theorem ExpandSound.cReset : ExpandSound.Statement .cReset := ⟨rfl, rfl, id⟩

theorem ExpandSound.cSleep : ExpandSound.Statement .cSleep := ⟨rfl, rfl, id⟩

theorem ExpandSound.cBitrate : ExpandSound.Statement .cBitrate := ⟨rfl, rfl, id⟩

theorem ExpandSound.cFreq : ExpandSound.Statement .cFreq := ⟨rfl, rfl, id⟩

theorem ExpandSound.cPower : ExpandSound.Statement .cPower := ⟨rfl, rfl, id⟩

theorem ExpandSound.cStandby : ExpandSound.Statement .cStandby := ⟨rfl, rfl, id⟩

theorem ExpandSound.cPreamble : ExpandSound.Statement .cPreamble := ⟨rfl, rfl, id⟩

theorem ExpandSound.cPacket : ExpandSound.Statement .cPacket := ⟨rfl, rfl, id⟩

theorem ExpandSound.cPayload : ExpandSound.Statement .cPayload := ⟨rfl, rfl, id⟩

theorem ExpandSound.cShaping : ExpandSound.Statement .cShaping := ⟨rfl, rfl, id⟩

theorem ExpandSound.tPayload : ExpandSound.Statement .tPayload := ⟨rfl, rfl, id⟩

theorem ExpandSound.tMode : ExpandSound.Statement .tMode := ⟨rfl, rfl, id⟩

theorem ExpandSound.tFifo : ExpandSound.Statement .tFifo := ⟨rfl, rfl, id⟩

theorem ExpandSound.wr (a : RegAddr) (v : Byte) : ExpandSound.Statement (.wr a v) := ⟨rfl, rfl, id⟩

theorem ExpandSound.wrBurst (a : RegAddr) (bs : List Byte) : ExpandSound.Statement (.wrBurst a bs) := by
  match bs with
  | [] => exact ⟨rfl, rfl, id⟩
  | [_] => exact ⟨rfl, rfl, fun _ => rfl⟩
  | _ :: _ :: _ => exact ⟨rfl, rfl, id⟩

theorem ExpandSound.rd (a : RegAddr) : ExpandSound.Statement (.rd a) := ⟨rfl, rfl, id⟩

theorem ExpandSound.zero : ExpandSound.Statement .zero := ⟨rfl, rfl, id⟩

theorem ExpandSound.one : ExpandSound.Statement .one := ⟨rfl, rfl, id⟩

theorem ExpandSound.silence : ExpandSound.Statement .silence := ⟨rfl, rfl, id⟩

theorem ExpandSound.cmdPacket (addr : NetAddr) (dev : Device) (act : Action) : ExpandSound.Statement (.cmdPacket addr dev act) :=
  ⟨rfl, rfl, id⟩

theorem ExpandSound.endPacket (addr : NetAddr) : ExpandSound.Statement (.endPacket addr) := ⟨rfl, rfl, id⟩

theorem ExpandSound.buildFrame (addr : NetAddr) (dev : Device) (act : Action) : ExpandSound.Statement (.buildFrame addr dev act) :=
  ⟨rfl, rfl, id⟩

end Sys2Proof.Laws
end

