-- ==== Sys2Proof/Laws/Run.lean ====
section
/-! SUPPORT. Runs of several steps, in terms of `step`. -/

namespace Sys2Proof.Machine

theorem run_zero (s : State) : Host.Core.run Sys2Proof.core 0 s = .next s := rfl

/-- One step that answers a next state, then the rest. -/
theorem run_succ_of (M : Host.Core) (k : Nat) (s t : M.State) (h : M.step s = .next t) : M.run (k + 1) s = M.run k t := by
  rw [Host.Core.run, h]

theorem run_succ_of_fault (M : Host.Core) (k : Nat) (s : M.State) (r : M.Fault) (h : M.step s = .fault r) :
    M.run (k + 1) s = .fault r := by
  rw [Host.Core.run, h]

theorem run_succ_of_refused (M : Host.Core) (k : Nat) (s : M.State) (r : M.Refusal) (h : M.step s = .refused r) :
    M.run (k + 1) s = .refused r := by
  rw [Host.Core.run, h]

/-- A run in two parts. -/
theorem run_add_of (M : Host.Core) : ∀ (j k : Nat) (s t : M.State), M.run j s = .next t → M.run (j + k) s = M.run k t
  | 0, k, s, t, h => by
    have e : s = t := by injection h
    rw [e, Nat.zero_add]
  | j + 1, k, s, t, h => by
    rw [show j + 1 + k = (j + k) + 1 by omega]
    cases hs : M.step s with
    | next u =>
      rw [run_succ_of M j s u hs] at h
      rw [run_succ_of M (j + k) s u hs]
      exact run_add_of M j k u t h
    | fault r => rw [run_succ_of_fault M j s r hs] at h; cases h
    | refused r => rw [run_succ_of_refused M j s r hs] at h; cases h

/-- One step of this machine that answers a next state, then the rest. -/
theorem run_succ_next {s t : State} (k : Nat) (h : step s = .next t) :
    Host.Core.run Sys2Proof.core (k + 1) s = Host.Core.run Sys2Proof.core k t :=
  run_succ_of Sys2Proof.core k s t h

/-- A run of this machine in two parts. -/
theorem run_add_next {s t : State} (j k : Nat) (h : Host.Core.run Sys2Proof.core j s = .next t) :
    Host.Core.run Sys2Proof.core (j + k) s = Host.Core.run Sys2Proof.core k t :=
  run_add_of Sys2Proof.core j k s t h

/-- What a step of a live core with nothing presented to a leaf block does. -/
theorem step_live {s : State} (h : live s) :
    step s = match fetch s with
      | .idle => .next s
      | .wait => .next s
      | .reserved => .fault .reservedSeq
      | .rejected r => .refused (.unitRejected (rejectText r))
      | .run i t => exec i t := by
  obtain ⟨hp, hr, he⟩ := h
  simp only [step, hp, hr, he]
  rfl

/-- A step of the sequencer. -/
theorem step_of_seq {s : State} {i : Instr} (h : live s) (hu : s.unit = none)
    (hi : decodeStep (seqCode s.core.seq) = .instr i) : step s = exec i s := by
  rw [step_live h, fetch, hu, hi]

/-- A step that takes the host's next word. -/
theorem step_of_host {s : State} {w : CmdWord} {ws : List CmdWord} (h : live s) (hu : s.unit = none) (hi : idle s.core)
    (hw : s.host = w :: ws) : step s = exec (decodeCmd w) { s with host := ws } := by
  have hd : decodeStep (seqCode s.core.seq) = .rejected .idleCode := by rcases hi with hi | hi <;> rw [hi] <;> rfl
  have hf : fetch s = .run (decodeCmd w) { s with host := ws } := by
    unfold fetch fetchCommand
    split
    · next k => rw [hu] at k; cases k
    · rw [hd, hw]
  rw [step_live h, hf]

end Sys2Proof.Machine
end

