-- ==== Sys2Proof/Tests/Slice0.lean ====
section
/-! SUPPORT. The model's own tests, on values of the spec (95_test_vectors.md, by section, and the rules), and a witness for
the hypotheses of every statement that has some. -/

namespace Sys2Proof.Tests

open Sys2Proof Sys2Proof.Machine

/-! ## Helpers -/

/-- The outcome is a next state with a property. -/
def nextAnd (o : Out) (p : State → Bool) : Bool :=
  match o with
  | .next t => p t
  | .fault _ | .refused _ => false

/-- The outcome is a given refusal. -/
def refusedBy (o : Out) (r : Refusal) : Bool :=
  match o with
  | .refused q => decide (q = r)
  | .next _ | .fault _ => false

/-- The outcome is a given fault. -/
def faultedBy (o : Out) (f : Fault) : Bool :=
  match o with
  | .fault g => decide (g = f)
  | .next _ | .refused _ => false

/-- A core in a given session. -/
def sess (q : Seq) (m : ShadowMode) (pl : Option Byte) (x : Bool) : Core :=
  { Core.reset with seq := q, shadowMode := m, plenCache := pl, txModeSet := x }

/-- A state with a given core, host words and answers. -/
def at_ (c : Core) (host : List CmdWord) (env : List Answer) : State :=
  { State.reset with core := c, host := host, env := env }

/-- Configured and idle, as after section 4.3. -/
def readyCore : Core := sess .idleReady .standby (some 0xC3) false

/-- The cells of the frame of TRANSMIT 31, A, ON. -/
def frameCells : List Host.Cell := memWriteAll [] 0 (buildFrame defaultParams 31 .A .on)

/-- The same cells, listed: no byte of the frame is the default 0x00. -/
def listedCells : List Host.Cell := (List.range 195).zip (buildFrame defaultParams 31 .A .on)

/-- A TRANSMIT 31, A, ON about to burst its frame. -/
def sendCore : Core :=
  { sess .tFifo .txOok (some 0xC3) true with cur := .transmit 31 .A .on, fb := listedCells }

/-- A transmit step before the burst. -/
def txCore (q : Seq) (x : Bool) : Core :=
  { sess q (if x then .txOok else .standby) (some 0xC3) x with cur := .transmit 31 .A .on, fb := frameCells }

/-- A state of the configure steps or an idle state meets the invariant when its session fits. -/
theorem inv_sess {q : Seq} {m : ShadowMode} {pl : Option Byte} {x : Bool} (host : List CmdWord) (env : List Answer)
    (hs : sessionOk (sess q m pl x)) (h1 : q ≠ .tPayload) (h2 : q ≠ .tMode) (h3 : q ≠ .tFifo) :
    Inv (at_ (sess q m pl x) host env) where
  params := (by decide : paramsWf defaultParams = true)
  fb := rfl
  session := hs
  err := rfl
  errStep := fun _ => rfl
  inFlight := fun _ => ⟨rfl, rfl⟩
  result := fun r h => by cases h
  fifo := ⟨rfl, Nat.zero_le _⟩
  cur := fun _ => rfl
  frame := by
    rintro (h | h | h)
    · exact absurd h h1
    · exact absurd h h2
    · exact absurd h h3
  freq := (by decide : freqValid defaultFreqHz = true)

/-- A transmit step with its frame in the buffer meets the invariant. -/
theorem inv_tx {c : Core} (host : List CmdWord) (env : List Answer) (hs : sessionOk c) (hf : c.fb = frameCells)
    (hc : c.cur = .transmit 31 .A .on) (hq : configuring c.seq = false)
    (h : c.lastErr = 0 ∧ c.errStep = .idleUnconf ∧ c.result = none ∧ c.fifoPos = 0 ∧ c.chunkIdx = 0 ∧ c.freqHz = 433790000) :
    Inv (at_ c host env) := by
  obtain ⟨a1, a2, a3, a4, a5, a6⟩ := h
  have hw : Memory.wf ([] : List Host.Cell) = true := rfl
  constructor
  · exact (by decide : paramsWf defaultParams = true)
  · show Memory.wf c.fb = true
    rw [hf]; exact memWriteAll_wf _ _ hw
  · exact hs
  · show errReserved c.lastErr = false
    rw [a1]; rfl
  · exact fun _ => a2
  · exact fun _ => ⟨a1, a3⟩
  · intro r k
    rw [show (at_ c host env).core.result = none from a3] at k; cases k
  · show c.fifoPos = _ ∧ c.chunkIdx ≤ _
    rw [a4]; refine ⟨?_, ?_⟩
    · show 0 = (List.take c.chunkIdx _).sum
      rw [a5]; rfl
    · show c.chunkIdx ≤ _
      rw [a5]; exact Nat.zero_le _
  · intro k
    rw [show configuring (at_ c host env).core.seq = false from hq] at k; cases k
  · intro _
    show transmitting defaultParams c
    unfold transmitting
    rw [hc, hf, a4]
    exact ⟨fbBytes_memWriteAll hw (by decide +kernel : (buildFrame defaultParams 31 .A .on).length = frameLen),
      (by decide : 0 < frameLen)⟩
  · show freqValid c.freqHz = true
    rw [a6]; decide

/-- The transmit steps of this file meet the invariant. -/
theorem inv_txCore {q : Seq} {x : Bool} (host : List CmdWord) (env : List Answer) (hs : sessionOk (txCore q x))
    (hq : configuring q = false) : Inv (at_ (txCore q x) host env) :=
  inv_tx host env hs (by simp only [txCore]) (by simp only [txCore]) hq ⟨rfl, rfl, rfl, rfl, rfl, rfl⟩

/-- The invariant says nothing of an operation presented to a leaf block. -/
theorem inv_unit {s : State} (h : Inv s) (u : Option UnitReq) : Inv { s with unit := u } :=
  ⟨h.params, h.fb, h.session, h.err, h.errStep, h.inFlight, h.result, h.fifo, h.cur, h.frame, h.freq⟩

theorem inv_tPayload : Inv (at_ (txCore .tPayload false) [] []) := inv_txCore [] [] ⟨rfl, .inl ⟨rfl, rfl⟩⟩ rfl

theorem inv_tMode : Inv (at_ (txCore .tMode false) [] []) := inv_txCore [] [] ⟨rfl, .inl ⟨rfl, rfl⟩⟩ rfl

theorem inv_tFifo : Inv (at_ (txCore .tFifo true) [] []) := inv_txCore [] [] ⟨rfl, rfl, rfl⟩ rfl

/-! ## Well-formed instructions: an ill-formed term for each check -/

theorem test_wf_illegal_refuses_configure : wellFormed (.illegal 0x0100000519DB1C30) = false := by decide
theorem test_wf_illegal_refuses_transmit : wellFormed (.illegal 0x020000000001001F) = false := by decide
theorem test_wf_illegal_refuses_buildFrame : wellFormed (.illegal 0x0300000000000400) = false := by decide
theorem test_wf_burst_refuses_empty : wellFormed (.wrBurst 0x00 []) = false := by decide
theorem test_wf_accepts : wellFormed (.illegal 0x0100020000000000) = true ∧ wellFormed (.wrBurst 0x00 [0x8E]) = true := by
  decide

/-! ## Decoding: words written out from the encodings -/

/-- Section 5.1, and the fields of R82. -/
theorem test_decode_configure :
    decodeCmd 0b0000000100000000000000000000010100011001110110110001110000110000 = .configure false 5 433790000 ∧
    decodeCmd 0x010000FF19DB1C30 = .configure false 0xFF 433790000 ∧
    decodeCmd 0x01000100FFFFFFFF = .configure true 0 0xFFFFFFFF := by decide

/-- Section 5.1, and the fields of R83. -/
theorem test_decode_transmit :
    decodeCmd 0b0000001000000000000000000000000000000000000000010000000000011111 = .transmit 31 0 1 ∧
    decodeCmd 0x02000000000105FF = .transmit 255 5 1 ∧ decodeCmd 0x0200000000020000 = .transmit 0 0 2 := by decide

/-- Section 5.1. -/
theorem test_decode_buildFrame :
    decodeCmd 0b0000001100000000000000000000000000000000000000000000010000000000 = .buildFrameCmd 0 4 0 := by decide

/-- R88: the pseudo-instructions' words are their expansions'. -/
theorem test_decode_pseudo :
    decode (encode .configureDefault) = .instr (.configure true 0 0) ∧ encode (.on 5 2) = .cmd 0x0200000000010205 ∧
    encode (.off 5 2) = .cmd 0x0200000000000205 := by decide

/-- Section 5.1, the six illegal words. -/
theorem test_decode_illegal :
    ([0x0100020000000000, 0x0200000001000000, 0x0000000000000000, 0x0400000000000000, 0xFF00000000000000,
      0x0180000000000000] : List CmdWord).all (fun w => decide (decodeCmd w = .illegal w)) = true := by decide

/-- R21: the codes of the configure steps. -/
theorem test_decode_configure_steps :
    decodeStep 0b0001 = .instr .cReset ∧ decodeStep 0b0010 = .instr .cSleep ∧ decodeStep 0b0011 = .instr .cBitrate ∧
    decodeStep 0b0100 = .instr .cFreq ∧ decodeStep 0b0101 = .instr .cPower ∧ decodeStep 0b0110 = .instr .cStandby ∧
    decodeStep 0b0111 = .instr .cPreamble ∧ decodeStep 0b1000 = .instr .cPacket ∧ decodeStep 0b1001 = .instr .cPayload ∧
    decodeStep 0b1010 = .instr .cShaping := by decide

/-- R21: the codes of the transmit steps, and the codes that are no step. -/
theorem test_decode_transmit_steps :
    decodeStep 0b1100 = .instr .tPayload ∧ decodeStep 0b1101 = .instr .tMode ∧ decodeStep 0b1110 = .instr .tFifo ∧
    decodeStep 0b0000 = .rejected .idleCode ∧ decodeStep 0b1011 = .rejected .idleCode ∧
    decodeStep 0b1111 = .rejected .reservedCode := by decide

/-- Section 2, and R90: 1aaaaaaa vvvvvvvv, bursts, 0aaaaaaa 00000000. -/
theorem test_decode_transactions :
    decodeTxn [0b10000001, 0b00000000] = .instr (.wr 0x01 0x00) ∧
    decodeTxn [0b10110010, 0b11000011] = .instr (.wr 0x32 0xC3) ∧
    decodeTxn [0b10000000, 0x8E, 0x88] = .instr (.wrBurst 0x00 [0x8E, 0x88]) ∧
    decodeTxn [0b01000010, 0b00000000] = .instr (.rd 0x42) ∧
    decodeTxn [0x42, 0x01] = .rejected .readFormat ∧ decodeTxn [0x42, 0x00, 0x00] = .rejected .readFormat ∧
    decodeTxn [0x81] = .rejected .shortTransaction := by decide

/-- W1, and R93: the 13 nibbles that are no symbol. -/
theorem test_decode_symbols :
    decodeSymbol 0b1000 = .instr .zero ∧ decodeSymbol 0b1110 = .instr .one ∧ decodeSymbol 0b0000 = .instr .silence ∧
    ([1, 2, 3, 4, 5, 6, 7, 9, 10, 11, 12, 13, 15] : List Nibble).all
      (fun n => decide (decodeSymbol n = .rejected .notASymbol)) = true := by decide

/-- Section 3.3. -/
theorem test_decode_cmdPacket :
    decodePacket [0xEE, 0x8E, 0xEE, 0x8E, 0xEE, 0x8E, 0x8E, 0x88, 0xEE, 0x8E, 0x88, 0xEE, 0x80] =
      .instr (.cmdPacket 21 .C .on) ∧
    decodePacket [0x8E, 0x8E, 0x8E, 0x8E, 0x8E, 0x8E, 0x8E, 0x8E, 0x8E, 0x88, 0xEE, 0x88, 0xE0] =
      .instr (.cmdPacket 0 .E .off) := by decide

/-- Section 3.4. -/
theorem test_decode_endPacket :
    decodePacket [0x8E, 0xEE, 0x8E, 0xEE, 0x8E, 0x8E, 0x8E, 0x8E, 0x8E, 0x8E, 0x8E, 0x8E, 0x80] = .instr (.endPacket 10) ∧
    decodePacket [0x8E, 0xEE, 0x8E, 0xEE, 0x8E, 0x8E, 0x8E, 0x8E, 0x8E, 0x8E, 0x8E, 0x8E, 0x88] = .rejected .notAPacket := by
  decide

/-- P1: the frame of TRANSMIT 31, A, ON. -/
theorem test_decode_buildFrame_bytes :
    decodeFrame ((List.replicate 12
        ([0xEE, 0xEE, 0xEE, 0xEE, 0xEE, 0x88, 0xEE, 0x8E, 0x8E, 0x8E, 0x88, 0xEE, 0x80] : List Byte)).flatten ++
      (List.replicate 3
        ([0xEE, 0xEE, 0xEE, 0xEE, 0xEE, 0x8E, 0x8E, 0x8E, 0x8E, 0x8E, 0x8E, 0x8E, 0x80] : List Byte)).flatten) =
      .instr (.buildFrame 31 .A .on) := by decide +kernel

/-- R87: the ranges of the assembler's numbers, and its text. -/
theorem test_assemble :
    assemble (.configure 4294967295 127) = some (.configure false 127 4294967295) ∧
    assemble (.configure 0 (-128)) = some (.configure false 0x80 0) ∧ assemble (.configure 4294967296 5) = none ∧
    assemble (.configure 0 128) = none ∧ assemble (.transmit 255 .A .on) = some (.transmit 255 0 1) ∧
    assemble (.transmit 256 .A .on) = none ∧ (AsmCmd.transmit 31 .A .on).render = "TRANSMIT 31, A, ON" := by decide

/-- The table's rows as the host numbers them, one for each format. -/
theorem test_table_words :
    decodeTableWord 64 0x020000000001001F = some (.transmit 31 0 1) ∧ decodeTableWord 8 0x05 = some .cPower ∧
    decodeTableWord 8 0x0E = some .tFifo ∧ decodeTableWord 16 0x81FF = some (.wr 0x01 0xFF) ∧
    decodeTableWord 16 0x4200 = some (.rd 0x42) ∧ decodeTableWord 24 0x808E88 = some (.wrBurst 0 [0x8E, 0x88]) ∧
    decodeTableWord 8 0x00 = some .silence ∧ decodeTableWord 4 0x8 = some .zero ∧ decodeTableWord 4 0xE = some .one ∧
    decodeTableWord 104 0xEEEEEEEEEE8E8E8E8E8E8E8E80 = some (.endPacket 31) := by decide

/-! ## The first step after reset runs the word placed for it -/

theorem test_fetch_command :
    nextAnd (step (State.reset.withFetchWord 64 0x0100010000000000)) (fun t => t.core.seq = .cReset) = true := by decide
theorem test_fetch_step :
    nextAnd (step (State.reset.withFetchWord 8 0x02)) (fun t => t.core.seq = .cBitrate) = true ∧
    nextAnd (step (State.reset.withFetchWord 8 0x08)) (fun t => t.core.seq = .cPayload) = true := by decide
theorem test_fetch_write :
    nextAnd (step (State.reset.withFetchWord 16 0x8100)) (fun t => t.trace = [okWrite [0x81, 0x00]]) = true := by decide
theorem test_fetch_symbol :
    nextAnd (step (State.reset.withFetchWord 4 0xE)) (fun t => t.unitOut = [0x0E]) = true := by decide

/-! ## Configuration, reset and status -/

theorem test_default_params_wf : paramsWf defaultParams = true := by decide

/-- Section 4.3's end state, section 4.4 and P1 to P4. -/
theorem test_status :
    statusOf readyCore = 0x0002009B ∧ statusOf { Core.reset with lastErr := 1, errStep := .cFreq } = 0x00004100 ∧
    statusOf { sess .idleReady .txOok (some 0xC3) true with lastErr := 0 } = 0x000300DB ∧
    statusOf { Core.reset with lastErr := 3 } = 0x00000300 ∧
    statusOf { Core.reset with lastErr := 1, errStep := .cPower } = 0x00005100 := by decide

/-- Section 4.1. -/
theorem test_frfWord :
    frfWord 433790000 = 0x6C728F ∧ frfWord 433920000 = 0x6C7AE1 ∧ frfWord 433030000 = 0x6C41EC ∧
    frfWord 434000000 = 0x6C8000 ∧ frfWord 868300000 = 0xD91333 ∧ frfWord 0 = 0 ∧ frfWord 1 = 0 ∧
    frfWord 1023999969 = 0xFFFFFF ∧ frfWord 1023999970 = 0x1000000 := by decide

/-- Section 4.2. -/
theorem test_powerEncode :
    ([(-128, 0x04, 0x80), (3, 0x04, 0x80), (5, 0x04, 0x80), (6, 0x04, 0x81), (10, 0x04, 0x85), (15, 0x04, 0x8A),
      (19, 0x04, 0x8E), (20, 0x04, 0x8F), (21, 0x07, 0x8D), (22, 0x07, 0x8E), (23, 0x07, 0x8F), (24, 0x07, 0x8F),
      (127, 0x07, 0x8F)] : List (Int × Byte × Byte)).all
      (fun r => decide (powerEncode defaultParams r.1 = r.2)) = true := by decide

/-- Sections 3.1 and 3.2. -/
theorem test_fields :
    addrField 6 = [0x8, 0xE, 0x8, 0xE, 0xE, 0xE, 0xE, 0xE, 0x8, 0xE] ∧
    devField defaultParams .B = [0xE, 0x8, 0x8, 0xE, 0xE, 0x8, 0xE, 0x8, 0xE, 0x8] ∧
    actField defaultParams .on = [0x8, 0xE, 0xE, 0x8] ∧ actField defaultParams .off = [0xE, 0x8, 0x8, 0xE] ∧
    endField defaultParams = [0xE, 0x8, 0xE, 0x8, 0xE, 0x8, 0xE, 0x8, 0xE, 0x8, 0xE, 0x8, 0xE, 0x8] := by decide

/-- R300: 150 microseconds for a chip, 234 milliseconds for a frame. -/
theorem test_air_time : chipMicros = 150 ∧ airMicros (buildFrame defaultParams 31 .A .on) = 234000 := by decide +kernel

/-! ## Host commands (sections 4.4 and 5.2) -/

theorem test_configure_starts :
    nextAnd (exec (.configure false 23 433920000) State.reset)
      (fun t => t.core.seq = .cReset ∧ t.core.freqHz = 433920000 ∧ t.core.powerReq = 23) = true := by decide
theorem test_configure_too_high :
    nextAnd (exec (decodeCmd 0x010000053D090000) (at_ readyCore [] []))
      (fun t => t.core = { readyCore with lastErr := 2, errStep := .idleReady } ∧ t.trace = []) = true := by decide
theorem test_configureDefault_clears_the_session :
    nextAnd (exec .configureDefault (at_ readyCore [] []))
      (fun t => t.core.shadowMode = .unknown ∧ t.core.plenCache = none ∧ t.core.freqHz = 433790000) = true := by decide
/-- R33: `cur` is the command accepted last, here after an earlier TRANSMIT; a refused one does not touch it. -/
theorem test_configure_is_current :
    nextAnd (exec .configureDefault (at_ { readyCore with cur := .transmit 31 .A .on } [] []))
      (fun t => t.core.cur = .configure) = true ∧
    nextAnd (exec (.configure false 5 0x3D090000) (at_ { readyCore with cur := .transmit 31 .A .on } [] []))
      (fun t => t.core.cur = .transmit 31 .A .on) = true := by decide
theorem test_transmit_before_configure :
    nextAnd (exec (.transmit 31 0 1) State.reset) (fun t => t.core.lastErr = 3 ∧ t.core.errStep = .idleUnconf) = true := by
  decide
theorem test_transmit_invalid_first :
    nextAnd (exec (.transmit 40 0 1) State.reset) (fun t => t.core.lastErr = 2) = true := by decide
theorem test_on_loads_the_frame :
    nextAnd (exec (.on 31 0) (at_ readyCore [] []))
      (fun t => t.core.seq = .tPayload ∧ t.core.cur = .transmit 31 .A .on ∧ fbRead t 5 = some 0x88 ∧ fbRead t 195 = none) =
      true := by decide +kernel
theorem test_off_loads_the_frame :
    nextAnd (exec (.off 31 0) (at_ readyCore [] []))
      (fun t => t.core.cur = .transmit 31 .A .off ∧ fbRead t 0 = some 0xEE) = true := by decide +kernel
theorem test_buildFrameCmd_returns :
    nextAnd (exec (.buildFrameCmd 0 4 0) (at_ readyCore [] []))
      (fun t => t.core.seq = .idleReady ∧ t.trace = [] ∧ (t.core.result.bind (·[0]?)) = some 0x8E ∧
        t.core.cur = .buildFrame 0 .E .off) = true := by decide +kernel
theorem test_buildFrameCmd_before_configure :
    nextAnd (exec (.buildFrameCmd 31 0 1) State.reset) (fun t => t.core.lastErr = 3 ∧ t.core.result = none) = true := by
  decide
theorem test_illegal :
    nextAnd (exec (.illegal 0x0100020000000000) (at_ readyCore [] []))
      (fun t => t.core = { readyCore with lastErr := 4, errStep := .idleReady }) = true := by decide

/-! ## Steps (sections 4.3 and 4.4): one success, one failure -/

theorem test_cReset :
    nextAnd (exec .cReset (at_ (sess .cReset .unknown none false) [] []))
      (fun t => t.core.seq = .cSleep ∧ t.trace = [.reset .deassert, .delay 100, .reset .assert, .delay 1000]) = true := by
  decide
theorem test_cSleep :
    nextAnd (exec .cSleep (at_ (sess .cSleep .unknown none false) [] [.ok 0x55]))
      (fun t => t.trace = [okWrite [0x81, 0x00]] ∧ t.core = sess .cBitrate .sleep none false ∧ t.env = []) = true := by decide
theorem test_cSleep_fails :
    nextAnd (exec .cSleep (at_ (sess .cSleep .unknown none false) [] [.fail 0]))
      (fun t => t.trace = [.txn [0x81, 0x00] 0 (.fail 0)] ∧ status t = 0x00002100) = true := by decide
theorem test_cBitrate :
    nextAnd (exec .cBitrate (at_ (sess .cBitrate .sleep none false) [] [.ok 0, .ok 0]))
      (fun t => t.trace = [okWrite [0x82, 0x12], okWrite [0x83, 0xC0]] ∧ t.core.seq = .cFreq) = true := by decide
theorem test_cBitrate_precondition :
    nextAnd (exec .cBitrate (at_ (sess .cBitrate .standby none false) [] [.ok 0, .ok 0]))
      (fun t => t.trace = [] ∧ t.core.lastErr = 5 ∧ t.core.errStep = .cBitrate ∧ t.core.seq = .idleUnconf) = true := by decide
theorem test_cFreq :
    nextAnd (exec .cFreq (at_ (sess .cFreq .sleep none false) [] [.ok 0, .ok 0, .ok 0]))
      (fun t => t.trace = [okWrite [0x86, 0x6C], okWrite [0x87, 0x72], okWrite [0x88, 0x8F]] ∧ t.core.frf = 0x6C728F) =
      true := by decide
theorem test_cFreq_fails :
    nextAnd (exec .cFreq (at_ (sess .cFreq .sleep none false) [] [.ok 0, .fail 1]))
      (fun t => t.trace = [okWrite [0x86, 0x6C], .txn [0x87, 0x72] 0 (.fail 1)] ∧ status t = 0x00004100 ∧
        t.core.frf = 0x6C728F) = true := by decide
theorem test_cPower :
    nextAnd (exec .cPower (at_ { sess .cPower .sleep none false with powerReq := 23 } [] [.ok 0, .ok 0]))
      (fun t => t.trace = [okWrite [0xCD, 0x07], okWrite [0x89, 0x8F]] ∧ t.core.paDac = 0x07 ∧ t.core.paConfig = 0x8F) =
      true := by decide
theorem test_cPower_fails :
    nextAnd (exec .cPower (at_ (sess .cPower .sleep none false) [] [.fail 2, .ok 0]))
      (fun t => t.trace = [.txn [0xCD, 0x04] 0 (.fail 2)] ∧ status t = 0x00005100 ∧ t.env = [.ok 0]) = true := by decide
theorem test_cStandby :
    nextAnd (exec .cStandby (at_ (sess .cStandby .sleep none false) [] [.ok 0]))
      (fun t => t.trace = [okWrite [0x81, 0x01]] ∧ t.core = sess .cPreamble .standby none false) = true := by decide
theorem test_cPreamble :
    nextAnd (exec .cPreamble (at_ (sess .cPreamble .standby none false) [] [.ok 0, .ok 0]))
      (fun t => t.trace = [okWrite [0xA5, 0x00], okWrite [0xA6, 0x00]] ∧ t.core.seq = .cPacket) = true := by decide
theorem test_cPacket :
    nextAnd (exec .cPacket (at_ (sess .cPacket .standby none false) [] [.ok 0, .ok 0, .ok 0]))
      (fun t => t.trace = [okWrite [0xA7, 0x00], okWrite [0xB0, 0x00], okWrite [0xB1, 0x40]] ∧ t.core.seq = .cPayload) =
      true := by decide
theorem test_cPacket_waits :
    nextAnd (exec .cPacket (at_ (sess .cPacket .standby none false) [] [.ok 0, .ok 0]))
      (fun t => t = at_ (sess .cPacket .standby none false) [] [.ok 0, .ok 0]) = true := by decide
theorem test_cPayload :
    nextAnd (exec .cPayload (at_ (sess .cPayload .standby none false) [] [.ok 0]))
      (fun t => t.trace = [okWrite [0xB2, 0xC3]] ∧ t.core = sess .cShaping .standby (some 195) false) = true := by decide
theorem test_cShaping :
    nextAnd (exec .cShaping (at_ (sess .cShaping .standby (some 0xC3) false) [] [.ok 0]))
      (fun t => t.trace = [okWrite [0x8A, 0x29]] ∧ status t = 0x0002009B) = true := by decide
theorem test_tPayload_cached :
    nextAnd (exec .tPayload (at_ (sess .tPayload .standby (some 0xC3) false) [] []))
      (fun t => t.trace = [] ∧ t.core.seq = .tMode) = true := by decide
theorem test_tPayload_written :
    nextAnd (exec .tPayload (at_ (sess .tPayload .standby none false) [] [.ok 0]))
      (fun t => t.trace = [okWrite [0xB2, 0xC3]] ∧ t.core.plenCache = some 195) = true := by decide
theorem test_tMode_written :
    nextAnd (exec .tMode (at_ (sess .tMode .standby (some 0xC3) false) [] [.ok 0]))
      (fun t => t.trace = [okWrite [0x81, 0x23]] ∧ t.core.txModeSet = true ∧ t.core.shadowMode = .txOok) = true := by decide
theorem test_tMode_once :
    nextAnd (exec .tMode (at_ (sess .tMode .txOok (some 0xC3) true) [] [])) (fun t => t.trace = [] ∧ t.core.seq = .tFifo) =
      true := by decide

/-- Section 5.2: the split [64, 64, 67], its middle burst. -/
theorem test_tFifo_chunk :
    nextAnd (exec .tFifo
      { at_ { sendCore with fifoPos := 64, chunkIdx := 1 } [] [.ok 0] with
        params := { defaultParams with fifoChunks := [64, 64, 67] } })
      (fun t => t.trace = [okWrite (0x80 :: ((buildFrame defaultParams 31 .A .on).drop 64).take 64)] ∧
        t.core.fifoPos = 128 ∧ t.core.chunkIdx = 2 ∧ t.core.seq = .tFifo) = true := by decide +kernel

/-- Section 5.2: the burst draws Fail(100). -/
theorem test_tFifo_fails :
    nextAnd (exec .tFifo (at_ sendCore [] [.fail 100]))
      (fun t => t.trace = [.txn (0x80 :: buildFrame defaultParams 31 .A .on) 0 (.fail 100)] ∧ t.core.lastErr = 1 ∧
        t.core.errStep = .tFifo ∧ t.core.seq = .idleUnconf ∧ t.core.plenCache = none ∧ t.core.txModeSet = false) = true := by
  decide +kernel

/-! ## Leaf operations (section 2 and W1) -/

theorem test_wr :
    nextAnd (exec (.wr 0x32 0xC3) (at_ Core.reset [] [.ok 0]))
      (fun t => t.trace = [.txn [0xB2, 0xC3] 0 (.ok [])] ∧ t.core = Core.reset) = true := by decide
theorem test_wr_fails :
    nextAnd (exec (.wr 0x06 0x6C) (at_ Core.reset [] [.fail 1]))
      (fun t => t.trace = [.txn [0x86, 0x6C] 0 (.fail 1)] ∧ t.core.lastErr = 1) = true := by decide
theorem test_wrBurst :
    nextAnd (exec (.wrBurst 0x00 [0x8E, 0x88]) (at_ Core.reset [] [.ok 0]))
      (fun t => t.trace = [.txn [0x80, 0x8E, 0x88] 0 (.ok [])]) = true := by decide
theorem test_wrBurst_empty : refusedBy (exec (.wrBurst 0x00 []) State.reset) .emptyBurst = true := by decide
theorem test_rd :
    nextAnd (exec (.rd 0x42) (at_ Core.reset [] [.ok 0x12]))
      (fun t => t.trace = [.txn [0x42, 0x00] 1 (.ok [0x12])] ∧ t.unitOut = [0x12] ∧ t.core = Core.reset) = true := by decide
theorem test_symbols :
    nextAnd (exec .zero State.reset) (fun t => t.unitOut = [0x08]) = true ∧
    nextAnd (exec .one State.reset) (fun t => t.unitOut = [0x0E]) = true ∧
    nextAnd (exec .silence State.reset) (fun t => t.unitOut = [0x00]) = true := by decide
theorem test_cmdPacket :
    nextAnd (exec (.cmdPacket 5 .C .off) State.reset)
      (fun t => t.unitOut = [0x8E, 0x8E, 0xEE, 0x8E, 0xEE, 0x8E, 0x8E, 0x88, 0xEE, 0x8E, 0x8E, 0x88, 0xE0]) = true := by decide
theorem test_endPacket :
    nextAnd (exec (.endPacket 16) State.reset)
      (fun t => t.unitOut = [0xEE, 0x8E, 0x8E, 0x8E, 0x8E, 0x8E, 0x8E, 0x8E, 0x8E, 0x8E, 0x8E, 0x8E, 0x80]) = true := by decide
theorem test_buildFrame :
    nextAnd (exec (.buildFrame 21 .C .on) State.reset)
      (fun t => t.unitOut.length = 195 ∧ t.unitOut.drop 182 =
        [0xEE, 0x8E, 0xEE, 0x8E, 0xEE, 0x8E, 0x8E, 0x8E, 0x8E, 0x8E, 0x8E, 0x8E, 0x80]) = true := by decide +kernel

/-! ## Where the machine stops -/

theorem test_params_refused :
    refusedBy (step { State.reset with params := { defaultParams with fifoChunks := [194] } }) .paramsIllFormed = true := by
  decide
theorem test_unit_rejected :
    refusedBy (step { State.reset with unit := some (.symbol 0x9) }) (.unitRejected "notASymbol") = true := by decide
theorem test_no_chunk :
    faultedBy (exec .tFifo (at_ { sendCore with fifoPos := 195, chunkIdx := 1 } [] [])) .noFifoChunk = true := by decide +kernel
theorem test_no_index :
    faultedBy (exec .tFifo (at_ { sendCore with fifoPos := 1 } [] [])) .frameIndexOutside = true := by decide +kernel

/-! ## Witnesses: states and operands that meet the hypotheses of each statement -/

/-- ResetGivesTheStatedValues, both records. -/
theorem witness_reset_records : (coreReset (at_ readyCore [0] [.ok 1])).core = State.reset.core := rfl

/-- PendingResetIsTaken. -/
theorem witness_pending_reset :
    paramsWf { at_ readyCore [] [] with resetReq := true }.params = true ∧
    { at_ readyCore [] [] with resetReq := true }.resetReq = true := by decide

/-- EveryStepKeepsTheInvariant, SequencerMovesOnlyAsTabled, TraceGrowsAndParamsStay: a step that answers a next state, in the
idle state, in a configure step and in the last transmit step. -/
theorem witness_step_idle :
    Inv (at_ readyCore [0x0100010000000000] []) ∧ (at_ readyCore [0x0100010000000000] []).unit = none ∧
    (at_ readyCore [0x0100010000000000] []).resetReq = false ∧
    nextAnd (step (at_ readyCore [0x0100010000000000] [])) (fun t => t.core.seq = .cReset) = true :=
  ⟨inv_sess _ _ ⟨rfl, .inl ⟨rfl, rfl⟩⟩ (by decide) (by decide) (by decide), rfl, rfl, by decide⟩

theorem witness_step_configure :
    Inv (at_ (sess .cFreq .sleep none false) [] [.ok 0, .ok 0, .ok 0]) ∧
    nextAnd (step (at_ (sess .cFreq .sleep none false) [] [.ok 0, .ok 0, .ok 0])) (fun t => t.core.seq = .cPower) = true :=
  ⟨inv_sess _ _ ⟨rfl, rfl, rfl⟩ (by decide) (by decide) (by decide), by decide⟩

theorem witness_step_transmit :
    Inv (at_ (txCore .tPayload false) [] []) ∧ (at_ (txCore .tPayload false) [] []).unit = none ∧
    nextAnd (step (at_ (txCore .tPayload false) [] [])) (fun t => t.core.seq = .tMode) = true :=
  ⟨inv_tPayload, rfl, by decide⟩

/-- NoStepStopsFromTheInvariant, in the step that could fault, and with a leaf operation presented. -/
theorem witness_no_stop :
    Inv (at_ (txCore .tFifo true) [] []) ∧
    (∀ u, (at_ (txCore .tFifo true) [] []).unit = some u → ∃ i, decode (.unit u) = .instr i) ∧
    Inv { at_ (txCore .tFifo true) [] [] with unit := some (.txn [0x42, 0x00]) } ∧
    (∀ u, { at_ (txCore .tFifo true) [] [] with unit := some (.txn [0x42, 0x00]) }.unit = some u →
      ∃ i, decode (.unit u) = .instr i) := by
  refine ⟨inv_tFifo, ?_, inv_unit inv_tFifo _, ?_⟩
  · intro u h; cases h
  · intro u h; cases h; exact ⟨.rd 0x42, rfl⟩

/-- UnspecifiedResetValuesAreNeverRead: two states that differ in all five fields, one that steps and one that faults. -/
theorem witness_unspecified :
    sameButUnspecified (at_ readyCore [0] [])
      (at_ { readyCore with frf := 7, paDac := 8, paConfig := 9, cur := .transmit 1 .B .on, fb := [(194, 0x55)] } [0] []) ∧
    nextAnd (step (at_ readyCore [0] [])) (fun t => t.core.lastErr = 4) = true :=
  ⟨⟨rfl, rfl, (by rintro (h | h | h) <;> cases h), rfl⟩, by decide⟩
theorem witness_unspecified_stops :
    faultedBy (step (at_ { readyCore with lastErr := 6 } [] [])) .reservedErrCode = true ∧
    refusedBy (step { State.reset with unit := some (.symbol 0x9) }) (.unitRejected "notASymbol") = true := by decide

/-- StepRunsTheFetchedInstruction, its four clauses. -/
theorem witness_fetch_host : live (at_ Core.reset [0] []) ∧ (at_ Core.reset [0] []).unit = none ∧
    idle (at_ Core.reset [0] []).core ∧ (at_ Core.reset [0] []).host = 0 :: [] := ⟨by unfold live; decide, rfl, .inl rfl, rfl⟩
theorem witness_fetch_nothing : live (at_ readyCore [] []) ∧ idle (at_ readyCore [] []).core ∧
    (at_ readyCore [] []).host = [] := ⟨by unfold live; decide, .inr rfl, rfl⟩
theorem witness_fetch_step : live (at_ (sess .cReset .unknown none false) [] []) ∧
    decode (.step (seqCode (at_ (sess .cReset .unknown none false) [] []).core.seq)) = .instr .cReset :=
  ⟨by unfold live; decide, by decide⟩
theorem witness_fetch_unit :
    live { at_ Core.reset [] [.ok 1] with unit := some (.txn [0x42, 0x00]) } ∧
    decode (.unit (.txn [0x42, 0x00])) = .instr (.rd 0x42) ∧ needsAnswer (.rd 0x42) = true ∧
    decode (.unit (.symbol 0xE)) = .instr .one ∧ needsAnswer .one = false := ⟨by unfold live; decide, by decide⟩

/-- IllFormedParamsAreRefused, each case at its boundary. -/
theorem witness_ill_formed_address :
    (∃ a ∈ regAddrs { defaultParams with regPaDac := 0x80 }, 0x80 ≤ a.toNat) ∧
    (∃ a ∈ regAddrs { defaultParams with regFifo := 0xFF }, 0x80 ≤ a.toNat) ∧
    (∃ a ∈ regAddrs { defaultParams with regPaDac := 0x80 }, defaultParams.writeBit = 0x80 ∧
      defaultParams.writeBit.toNat ≤ a.toNat) := by decide
theorem witness_ill_formed_groups :
    (∃ p : Params, p.regFrfMsb = p.regFrfMid) ∧ (∃ p : Params, p.regFrfMsb = p.regFrfLsb) ∧
    (∃ p : Params, p.regFrfMid = p.regFrfLsb) ∧ (∃ p : Params, p.regBitrateMsb = p.regBitrateLsb) ∧
    (∃ p : Params, p.regPreambleMsb = p.regPreambleLsb) :=
  ⟨⟨{ defaultParams with regFrfMid := 0x06 }, rfl⟩, ⟨{ defaultParams with regFrfLsb := 0x06 }, rfl⟩,
   ⟨{ defaultParams with regFrfLsb := 0x07 }, rfl⟩, ⟨{ defaultParams with regBitrateLsb := 0x02 }, rfl⟩,
   ⟨{ defaultParams with regPreambleLsb := 0x25 }, rfl⟩⟩
theorem witness_ill_formed_tables :
    0 ∈ { defaultParams with fifoChunks := [195, 0] }.fifoChunks ∧
    { defaultParams with fifoChunks := [194] }.fifoChunks.sum ≠ 195 ∧
    { defaultParams with fifoChunks := [1, 195] }.fifoChunks.sum ≠ 195 ∧
    { defaultParams with groupSel := defaultParams.groupFill }.groupSel = defaultParams.groupFill := by decide

/-- ReservedCodesFault. -/
theorem witness_reserved_codes :
    paramsWf State.reset.params = true ∧ State.reset.resetReq = false ∧
    (at_ { Core.reset with lastErr := 6 } [] []).core.lastErr = 6 ∧
    (at_ { Core.reset with lastErr := 7 } [] []).core.lastErr = 7 ∧
    (at_ { Core.reset with lastErr := 5, seq := .reserved15 } [] []).core.lastErr.toNat ≤ 5 ∧
    (at_ { Core.reset with seq := .reserved15 } [] []).core.seq = .reserved15 := by decide

/-- DecodeOfEncodeAgrees: well-formed instructions of every format. -/
theorem witness_wellFormed :
    ([.configure true 0xFF 0xFFFFFFFF, .transmit 255 255 255, .buildFrameCmd 32 5 2, .configureDefault, .on 31 4, .off 0 0,
      .illegal 0, .illegal 0xFFFFFFFFFFFFFFFF, .cReset, .tFifo, .wr 127 255, .wrBurst 0 [1], .wrBurst 0 [1, 2], .rd 0, .zero,
      .one, .silence, .cmdPacket 31 .E .on, .endPacket 0, .buildFrame 16 .C .off] : List Instr).all wellFormed = true := by
  decide

/-- ReservedEncodingsAreIllegal, each case at its boundaries. -/
theorem witness_reserved_encodings :
    idle Core.reset ∧ idle readyCore ∧
    ([0x00FFFFFFFFFFFFFF, 0x0400000000000000, 0xFF00000000000000] : List CmdWord).all
      (fun w => decide ((w.extractLsb' 56 8).toNat = 0 ∨ 4 ≤ (w.extractLsb' 56 8).toNat)) = true ∧
    ([0x0100020000000000, 0x0180000000000000] : List CmdWord).all
      (fun w => decide ((w.extractLsb' 56 8).toNat = 1 ∧ w.extractLsb' 41 15 ≠ 0)) = true ∧
    ([0x0200000001000000, 0x0280000000000000, 0x0300000001000000, 0x0380000000000000] : List CmdWord).all
      (fun w => decide (((w.extractLsb' 56 8).toNat = 2 ∨ (w.extractLsb' 56 8).toNat = 3) ∧ w.extractLsb' 24 32 ≠ 0)) =
      true := ⟨.inl rfl, .inr rfl, by decide⟩

/-- ConfigureStartsTheSequence and FrequencyRangeIsChecked, at the largest valid and the smallest invalid frequency. -/
theorem witness_configure :
    idle Core.reset ∧ ((1023999969#32).toNat * 16384 + 500000) / 1000000 ≤ 0xFFFFFF ∧
    0xFFFFFF < ((1023999970#32).toNat * 16384 + 500000) / 1000000 ∧ (1023999969#32).toNat ≤ 1023999969 ∧
    1023999969 < (1023999970#32).toNat ∧ busy (sess .cReset .unknown none false).seq = true := ⟨.inl rfl, by decide⟩

/-- TransmitStartsTheSteps and BuildFrameReturnsTheFrame: the operand boundaries and both idle states. -/
theorem witness_transmit_operands :
    Memory.wf readyCore.fb = true ∧ idle readyCore ∧ 31 < (32 : Byte).toNat ∧ 4 < (5 : Byte).toNat ∧ 1 < (2 : Byte).toNat ∧
    Core.reset.seq = .idleUnconf ∧ readyCore.seq = .idleReady := ⟨rfl, .inr rfl, by decide⟩
theorem witness_transmit_instrs :
    (Instr.on 31 0 = .on ((31 : NetAddr).setWidth 8) (devByte .A) ∧ Action.on = .on) ∧
    (Instr.off 0 4 = .off ((0 : NetAddr).setWidth 8) (devByte .E) ∧ Action.off = .off) ∧
    Instr.transmit 16 2 0 = .transmit ((16 : NetAddr).setWidth 8) (devByte .C) (actByte .off) := by decide

/-- RefusedCommandChangesNothingElse. -/
theorem witness_refused :
    isHostCommand (.transmit 31 0 1) = true ∧ idle State.reset.core ∧
    nextAnd (exec (.transmit 31 0 1) State.reset) (fun t => t.core.lastErr ≠ 0) = true := ⟨rfl, .inl rfl, by decide⟩

/-- FirstErrorWins, each branch at its boundary. -/
theorem witness_first_error :
    nextAnd (exec (decodeCmd 0x0200000001000000) State.reset) (fun t => t.core.lastErr = 4) = true ∧
    nextAnd (exec (decodeCmd 0x010000053D08FFE2) State.reset) (fun t => t.core.lastErr = 2) = true ∧
    nextAnd (exec (decodeCmd 0x010000053D08FFE1) State.reset) (fun t => t.core.lastErr = 0) = true ∧
    nextAnd (exec (decodeCmd 0x0200000000010020) State.reset) (fun t => t.core.lastErr = 2) = true ∧
    nextAnd (exec (decodeCmd 0x030000000001041F) State.reset) (fun t => t.core.lastErr = 3) = true := by decide

/-- BusyCoreTakesNoCommand. -/
theorem witness_busy :
    busy (at_ (sess .cReset .unknown none false) [7] []).core.seq = true ∧ isHostCommand (.illegal 0) = true ∧
    (at_ (sess .cReset .unknown none false) [7] []).unit = none ∧
    nextAnd (step (at_ (sess .cReset .unknown none false) [7] [])) (fun t => t.host = [7]) = true := by decide

/-- WritesInOrder, in every statement that uses it: the answers for a list of writes that all succeed, and for one that fails
at its first or a later write with no byte or all bytes sent. -/
theorem witness_writes_succeed (outs : List (List Byte)) (s : State) :
    (List.replicate outs.length (0 : Byte)).length = outs.length ∧
    { s with env := allOk (List.replicate outs.length 0) }.env = allOk (List.replicate outs.length 0) ++ [] := by simp
theorem witness_writes_fail_first (out : List Byte) (rest : List (List Byte)) (s : State) :
    (out :: rest).drop ([] : List Byte).length = out :: rest ∧
    { s with env := [.fail 0] }.env = allOk [] ++ .fail 0 :: [] ∧ 0 ≤ out.length := by simp [allOk]
theorem witness_writes_fail_later (out out' : List Byte) (rest : List (List Byte)) (s : State) :
    (out :: out' :: rest).drop ([0] : List Byte).length = out' :: rest ∧
    { s with env := [.ok 0, .fail out'.length] }.env = allOk [0] ++ .fail out'.length :: [] ∧
    out'.length ≤ out'.length := by simp [allOk]

/-- The configure and transmit steps' own hypotheses. -/
theorem witness_step_modes :
    (sess .cBitrate .sleep none false).shadowMode = .sleep ∧ (sess .cBitrate .standby none false).shadowMode ≠ .sleep ∧
    (frfOf 433790000).toNat = ((433790000#32).toNat * 16384 + 500000) / 1000000 ∧
    powerEncode defaultParams (BitVec.toInt 0x80#8) = (0x04, 0x80) ∧ (sess .tPayload .standby (some 195) false).plenCache = some 195 ∧
    (sess .tPayload .standby (some 194) false).plenCache ≠ some 195 ∧ (sess .tMode .txOok none true).txModeSet = true ∧
    (sess .tMode .standby none false).txModeSet = false ∧
    defaultParams.fifoChunks[sendCore.chunkIdx]? = some 195 ∧ sendCore.fifoPos + 195 ≤ 195 := by decide

/-- ModePreconditionIsCheckedAndNeverFires. -/
theorem witness_mode_invariant :
    Inv (at_ (sess .cBitrate .sleep none false) [] []) ∧ Inv (at_ (sess .cFreq .sleep none false) [] []) :=
  ⟨inv_sess _ _ ⟨rfl, rfl, rfl⟩ (by decide) (by decide) (by decide),
   inv_sess _ _ ⟨rfl, rfl, rfl⟩ (by decide) (by decide) (by decide)⟩

/-- PayloadLengthIsWrittenOnlyIfNotCached, its first clause. -/
theorem witness_payload_cached :
    Inv (at_ (txCore .tPayload false) [] []) ∧ (at_ (txCore .tPayload false) [] []).core.seq = .tPayload := ⟨inv_tPayload, rfl⟩

/-- SilentTransportLeavesTheCoreStuck, its first, a middle and its last step, and T_MODE. -/
theorem witness_silent :
    Inv (at_ (sess .cSleep .unknown none false) [] []) ∧ Inv (at_ (sess .cShaping .standby (some 0xC3) false) [] []) ∧
    Inv (at_ (txCore .tFifo true) [] []) ∧ (at_ (txCore .tFifo true) [] []).env = [] ∧
    Inv (at_ (txCore .tMode false) [] []) ∧ (txCore .tMode false).txModeSet = false :=
  ⟨inv_sess _ _ ⟨rfl, rfl, rfl⟩ (by decide) (by decide) (by decide),
   inv_sess _ _ ⟨rfl, rfl, rfl⟩ (by decide) (by decide) (by decide),
   inv_tFifo, rfl, inv_tMode, rfl⟩

/-- ConfigureIssuesTheSixteenWrites, with D = 1 and with D = 0 at the largest frequency. -/
theorem witness_sixteen_writes :
    live (at_ Core.reset [encodeConfigure true 0 0] (allOk (List.replicate 16 0))) ∧ idle Core.reset ∧
    (List.replicate 16 (0 : Byte)).length = 16 ∧
    (0x6C728F#24).toNat = ((if true then 433790000 else (0#32).toNat) * 16384 + 500000) / 1000000 ∧
    powerEncode defaultParams (if true then 5 else (0#8).toInt) = (0x04, 0x80) ∧
    (0xFFFFFF#24).toNat = ((if false then 433790000 else (1023999969#32).toNat) * 16384 + 500000) / 1000000 ∧
    powerEncode defaultParams (if false then 5 else (127#8).toInt) = (0x07, 0x8F) :=
  ⟨by unfold live; decide, .inl rfl, by decide⟩

/-- TransmitSendsExactlyTheFrame, the first and a later TRANSMIT of a session. -/
theorem witness_frame_sent :
    Inv (at_ readyCore [encodeTx 0x02 ((31 : NetAddr).setWidth 8) (devByte .A) (actByte .on)] (allOk [0, 0])) ∧
    ([0, 0] : List Byte).length = (if readyCore.txModeSet then 0 else 1) + defaultParams.fifoChunks.length ∧
    Inv (at_ (sess .idleReady .txOok (some 0xC3) true)
      [encodeTx 0x02 ((31 : NetAddr).setWidth 8) (devByte .A) (actByte .on)] (allOk [0])) ∧
    ([0] : List Byte).length =
      (if (sess .idleReady .txOok (some 0xC3) true).txModeSet then 0 else 1) + defaultParams.fifoChunks.length :=
  ⟨inv_sess _ _ ⟨rfl, .inl ⟨rfl, rfl⟩⟩ (by decide) (by decide) (by decide), rfl,
   inv_sess _ _ ⟨rfl, .inr ⟨rfl, rfl⟩⟩ (by decide) (by decide) (by decide), rfl⟩

/-- RegisterWriteIsOneTransaction and RegisterReadReturnsTheReceivedByte. -/
theorem witness_register :
    ([0] : List Byte) ≠ [] ∧ (at_ Core.reset [] [.ok 0xFF]).env = .ok 0xFF :: [] ∧
    (at_ Core.reset [] [.fail 2]).env = .fail 2 :: [] ∧ 2 ≤ 2 := by decide

/-- CoreNeverReadsTheTransceiver: an instruction that is no read, and a read under two different bytes. -/
theorem witness_reads :
    nextAnd (exec (.wr 0 0) (at_ Core.reset [] [.ok 0])) (fun _ => true) = true ∧
    nextAnd (exec (.rd 0) { State.reset with env := .ok 0x00 :: [] }) (fun _ => true) = true ∧
    nextAnd (exec (.rd 0) { State.reset with env := .ok 0xFF :: [] }) (fun _ => true) = true := by decide

/-- OnlyFrameCommandsWriteTheBuffer. -/
theorem witness_other_instr :
    nextAnd (exec .cReset State.reset) (fun _ => true) = true ∧ (∀ x y z, Instr.cReset ≠ .transmit x y z) ∧
    (∀ x y z, Instr.cReset ≠ .buildFrameCmd x y z) ∧ (∀ x y, Instr.cReset ≠ .on x y) ∧ (∀ x y, Instr.cReset ≠ .off x y) :=
  ⟨by decide, by simp⟩

/-- DeviceFieldSelectsOneGroup, FrameDeterminesItsOperands and the field constraints of R157 and R159. -/
theorem witness_tables :
    defaultParams.groupSel ≠ defaultParams.groupFill ∧ defaultParams.actOn ≠ defaultParams.actOff ∧
    paramsWf defaultParams = true ∧ devField defaultParams .A = devField defaultParams .A := by decide

/-- PackPairsSymbols, for no pair and for thirteen. -/
theorem witness_pack :
    ([] : List Nibble).length = 2 * 0 ∧ (cmdSyms defaultParams 31 .A .on).length = 2 * 13 := by decide

/-- PacketLayoutBySymbol and PacketChipView. -/
theorem witness_packets :
    cmdSyms defaultParams 0 .A .on = cmdSyms defaultParams 0 .A .on ∧
    cmdPacket defaultParams 0 .A .on = pack (cmdSyms defaultParams 0 .A .on) ∧
    endPacket defaultParams 0 = endPacket defaultParams 0 := ⟨rfl, rfl, rfl⟩

/-- PowerEncodingByRange, the ends of its four ranges. -/
theorem witness_power_ranges :
    (5 : Int) ≤ 5 ∧ (5 : Int) = 5 + (0 : Nat) ∧ (20 : Int) = 5 + (15 : Nat) ∧ (21 : Int) = 21 + (0 : Nat) ∧
    (23 : Int) = 21 + (2 : Nat) ∧ (23 : Int) ≤ 23 ∧ powerEncode defaultParams 5 = (0x04, 0x80) ∧
    powerEncode defaultParams 23 = (0x07, 0x8F) := by decide

/-- AcceptedCommandIsTheCurrentOne: accepted, refused, and an instruction that is no host command. -/
theorem witness_current :
    idle readyCore ∧ idle Core.reset ∧ isHostCommand .cReset = false ∧
    nextAnd (exec (.configure false 5 0) State.reset) (fun t => t.core.lastErr = 0) = true ∧
    nextAnd (exec (.on 31 0) (at_ readyCore [] [])) (fun t => t.core.lastErr = 0) = true ∧
    nextAnd (exec (.buildFrameCmd 31 0 1) (at_ readyCore [] [])) (fun t => t.core.lastErr = 0) = true ∧
    nextAnd (exec (.on 32 0) (at_ readyCore [] [])) (fun t => t.core.lastErr ≠ 0) = true ∧
    nextAnd (exec .cReset State.reset) (fun _ => true) = true := ⟨.inr rfl, .inl rfl, by decide +kernel⟩

end Sys2Proof.Tests
end

section
/-! The parts of R8's well-formedness check as propositions, and the refusal of a record that fails it. -/

namespace Sys2Proof.Machine

theorem paramsWf_iff (p : Params) : paramsWf p = true ↔
    addrsWf p = true ∧ chunksWf p = true ∧ p.groupSel ≠ p.groupFill ∧ valuesWf p = true ∧ delaysWf p = true := by
  simp only [paramsWf, Bool.and_eq_true, bne_iff_ne, and_assoc]

theorem addrsWf_iff (p : Params) : addrsWf p = true ↔
    (∀ a ∈ regAddrs p, a.toNat < 0x80 ∧ (p.writeBit = 0x80 → a.toNat < p.writeBit.toNat)) ∧
    p.regFrfMsb ≠ p.regFrfMid ∧ p.regFrfMsb ≠ p.regFrfLsb ∧ p.regFrfMid ≠ p.regFrfLsb ∧
    p.regBitrateMsb ≠ p.regBitrateLsb ∧ p.regPreambleMsb ≠ p.regPreambleLsb := by
  simp only [addrsWf, Bool.and_eq_true, Bool.or_eq_true, List.all_eq_true, bne_iff_ne, decide_eq_true_eq, and_assoc,
    imp_iff_not_or, ne_eq]

theorem chunksWf_iff (p : Params) : chunksWf p = true ↔ 0 ∉ p.fifoChunks ∧ p.fifoChunks.sum = 195 := by
  have hpos : (∀ n ∈ p.fifoChunks, 0 < n) ↔ 0 ∉ p.fifoChunks :=
    ⟨fun h h0 => (h 0 h0).false, fun h _ hn => Nat.pos_of_ne_zero (ne_of_mem_of_not_mem hn h)⟩
  simp only [chunksWf, frameLen, Bool.and_eq_true, List.all_eq_true, decide_eq_true_eq, beq_iff_eq, hpos]

theorem step_refused_of_not_paramsWf {s : State} (h : paramsWf s.params ≠ true) :
    step s = .refused .paramsIllFormed := by
  simp only [step, h, Bool.not_false, if_true]

/-- Settles O11: each disjunct contradicts one conjunct of the check. -/
theorem illFormedParamsAreRefused : Obligations.IllFormedParamsAreRefused := by
  intro s hbad
  refine step_refused_of_not_paramsWf fun hwf => ?_
  obtain ⟨haddrs, hchunks, hgroups, -, -⟩ := (paramsWf_iff _).mp hwf
  obtain ⟨hrange, hfrf₁, hfrf₂, hfrf₃, hbitrate, hpreamble⟩ := (addrsWf_iff _).mp haddrs
  obtain ⟨hzero, hsum⟩ := (chunksWf_iff _).mp hchunks
  obtain ⟨a, ha, hhigh | ⟨hbit, hge⟩⟩ | h | h | h | h | h | h | h | h := hbad
  · exact absurd (hrange a ha).1 hhigh.not_gt
  · exact absurd ((hrange a ha).2 hbit) hge.not_gt
  · exact hfrf₁ h
  · exact hfrf₂ h
  · exact hfrf₃ h
  · exact hbitrate h
  · exact hpreamble h
  · exact hzero h
  · exact h hsum
  · exact hgroups h

end Sys2Proof.Machine
end

section
/-! What an instruction that answers a next state did, said once: the ends of a sequencer step or leaf operation, and the
ends of a host command. -/

namespace Sys2Proof.Machine

/-! ## Sequencer steps and leaf operations -/

/-- The record once a step has written the fields it computes before its first transaction (R148). -/
def startedCore (p : Params) (i : Instr) (c : Core) : Core :=
  match i with
  | .cFreq => c.setFrf (frfOf c.freqHz)
  | .cPower => c.setPa (powerEncode p c.powerReq.toInt).1 (powerEncode p c.powerReq.toInt).2
  | _ => c

/-- What a step that succeeds then makes of the record (R150 to R159, R232 to R234). -/
def finishedCore (p : Params) (i : Instr) (c : Core) : Core :=
  match i with
  | .cReset => c.setSeq .cSleep
  | .cSleep => (c.setShadow .sleep).setSeq .cBitrate
  | .cBitrate => c.setSeq .cFreq
  | .cFreq => c.setSeq .cPower
  | .cPower => c.setSeq .cStandby
  | .cStandby => (c.setShadow .standby).setSeq .cPreamble
  | .cPreamble => c.setSeq .cPacket
  | .cPacket => c.setSeq .cPayload
  | .cPayload => (c.setPlen (some payloadLen)).setSeq .cShaping
  | .cShaping => c.setSeq .idleReady
  | .tPayload => (c.setPlen (some payloadLen)).setSeq .tMode
  | .tMode => if c.txModeSet then c.setSeq .tFifo else ((c.setTxMode true).setShadow .txOok).setSeq .tFifo
  | .tFifo =>
    let n := (p.fifoChunks[c.chunkIdx]?).getD 0
    (c.setFifo (c.fifoPos + n) (c.chunkIdx + 1)).setSeq (if c.fifoPos + n = frameLen then .idleReady else .tFifo)
  | _ => c

/-- The record after a step or a leaf operation that succeeds. -/
def completedCore (p : Params) (i : Instr) (c : Core) : Core := finishedCore p i (startedCore p i c)

/-- How an instruction that is no host command can end in a next state. C_RESET neither waits nor fails (R150, D34). -/
inductive StepEnd (i : Instr) (s : State) : State → Prop
  /-- An answer is missing and nothing is taken (R261). -/
  | waits (h : i ≠ .cReset) : StepEnd i s s
  | completes (e : List Answer) (es : List Event) (out : List Byte) :
    StepEnd i s { s with env := e, trace := s.trace ++ es, unitOut := out, core := completedCore s.params i s.core }
  /-- A transaction fails (R254, R256). -/
  | transportFails (h : i ≠ .cReset) (e : List Answer) (es : List Event) :
    StepEnd i s { s with env := e, trace := s.trace ++ es, core := sessionLost (startedCore s.params i s.core) 1 }
  /-- The mode is not the one the step demands (R146). -/
  | modeFails (h : i = .cBitrate ∨ i = .cFreq) (hm : s.core.shadowMode ≠ .sleep) :
    StepEnd i s { s with core := sessionLost s.core 5 }

@[simp] theorem startedCore_seq (p : Params) (i : Instr) (c : Core) : (startedCore p i c).seq = c.seq := by
  cases i <;> rfl

@[simp] theorem startedCore_fb (p : Params) (i : Instr) (c : Core) : (startedCore p i c).fb = c.fb := by
  cases i <;> rfl

@[simp] theorem startedCore_cur (p : Params) (i : Instr) (c : Core) : (startedCore p i c).cur = c.cur := by
  cases i <;> rfl

theorem finishedCore_fb_cur (p : Params) (i : Instr) (c : Core) :
    (finishedCore p i c).fb = c.fb ∧ (finishedCore p i c).cur = c.cur := by
  cases i
  case tMode => cases hx : c.txModeSet <;> simp [finishedCore, hx]
  all_goals exact ⟨rfl, rfl⟩

@[simp] theorem completedCore_fb (p : Params) (i : Instr) (c : Core) : (completedCore p i c).fb = c.fb := by
  simp [completedCore, finishedCore_fb_cur]

@[simp] theorem completedCore_cur (p : Params) (i : Instr) (c : Core) : (completedCore p i c).cur = c.cur := by
  simp [completedCore, finishedCore_fb_cur]

/-- A completion without an event. -/
theorem StepEnd.completes_silently {i : Instr} {s : State} {c : Core} (hc : completedCore s.params i s.core = c)
    (out : List Byte) : StepEnd i s { s with unitOut := out, core := c } := by
  simpa [hc] using StepEnd.completes (i := i) (s := s) s.env [] out

/-- A step that issues writes ends as a step does, whatever is answered. -/
theorem runWrites_stepEnd {i : Instr} {s t : State} {outs : List (List Byte)} {finish : State → State}
    (hi : i ≠ .cReset)
    (hf : ∀ u : State, u.core = startedCore s.params i s.core →
      finish u = u.withCore (finishedCore s.params i u.core))
    (h : runWrites outs s { s with core := startedCore s.params i s.core } finish = .next t) : StepEnd i s t := by
  rcases runWrites_cases outs s { s with core := startedCore s.params i s.core } finish with
    ⟨bs, e, -, -, hx⟩ | ⟨bs, o, r, k, e, -, -, hx⟩ | ⟨bs, -, -, hx⟩
  · rw [hx, hf _ rfl] at h; cases h
    exact .completes e _ s.unitOut
  · rw [hx, raiseErr_transportFailure s _ (startedCore_seq ..)] at h; cases h
    rw [List.append_assoc]
    exact .transportFails hi e _
  · rw [hx] at h; cases h
    exact .waits hi

theorem requireSleep_stepEnd {i : Instr} {s t : State} {body : Out} (hi : i = .cBitrate ∨ i = .cFreq)
    (hb : body = .next t → StepEnd i s t) (h : requireSleep s body = .next t) : StepEnd i s t := by
  unfold requireSleep at h
  split at h
  · exact hb h
  · next hm =>
    rw [raiseErr_execution rfl] at h; cases h
    exact .modeFails hi hm

/-- Every instruction but the host commands: what it did when it answers a next state. -/
theorem exec_stepEnd {i : Instr} {s t : State} (hi : isHostCommand i = false) (h : exec i s = .next t) :
    StepEnd i s t := by
  cases i with
  | configure | transmit | buildFrameCmd | configureDefault | on | off | illegal => cases hi
  | cReset =>
    cases h
    simpa [advance, State.withCore, State.emit, completedCore, finishedCore, startedCore] using
      StepEnd.completes (i := .cReset) (s := s) s.env _ s.unitOut
  | cSleep => exact runWrites_stepEnd (by simp) (fun _ _ => rfl) h
  | cBitrate => exact requireSleep_stepEnd (by simp) (runWrites_stepEnd (by simp) (fun _ _ => rfl)) h
  | cFreq => exact requireSleep_stepEnd (by simp) (runWrites_stepEnd (by simp) (fun _ _ => rfl)) h
  | cPower => exact runWrites_stepEnd (by simp) (fun _ _ => rfl) h
  | cStandby => exact runWrites_stepEnd (by simp) (fun _ _ => rfl) h
  | cPreamble => exact runWrites_stepEnd (by simp) (fun _ _ => rfl) h
  | cPacket => exact runWrites_stepEnd (by simp) (fun _ _ => rfl) h
  | cPayload => exact runWrites_stepEnd (by simp) (fun _ _ => rfl) h
  | cShaping => exact runWrites_stepEnd (by simp) (fun _ _ => rfl) h
  | tPayload =>
    change execTPayload s = _ at h
    unfold execTPayload at h
    split at h
    · next hc =>
      cases h
      have hcore : completedCore s.params .tPayload s.core = s.core.setSeq .tMode := by
        simp [completedCore, finishedCore, startedCore, Core.setPlen, Core.setSeq, ← hc]
      exact .completes_silently hcore s.unitOut
    · exact runWrites_stepEnd (by simp) (fun _ _ => rfl) h
  | tMode =>
    change execTMode s = _ at h
    unfold execTMode at h
    split at h
    · next hx =>
      cases h
      have hcore : completedCore s.params .tMode s.core = s.core.setSeq .tFifo := by
        simp [completedCore, finishedCore, startedCore, hx]
      exact .completes_silently hcore s.unitOut
    · next hx =>
      exact runWrites_stepEnd (by simp) (fun u hu => by simp [finishedCore, show u.core = s.core from hu, hx]) h
  | tFifo =>
    change execTFifo s = _ at h
    unfold execTFifo at h
    split at h
    · cases h
    · next n hn =>
      split at h
      · cases h
      · refine runWrites_stepEnd (by simp) (fun u hu => ?_) h
        have hidx : s.params.fifoChunks[u.core.chunkIdx]? = some n := by
          rw [show u.core = s.core from hu, hn]
        simp [finishedCore, hidx, afterBurst]
  | wr a v => exact runWrites_stepEnd (by simp) (fun _ _ => rfl) h
  | wrBurst a bs =>
    change execWrBurst a bs s = _ at h
    unfold execWrBurst at h
    split at h
    · cases h
    · exact runWrites_stepEnd (by simp) (fun _ _ => rfl) h
  | rd a =>
    change execRd a s = _ at h
    simp only [execRd] at h
    split at h
    · cases h; exact .waits (by simp)
    · cases h; exact .completes _ _ _
    · rw [raiseErr_execution rfl] at h
      cases h; exact .transportFails (by simp) _ _
  | zero | one | silence | cmdPacket | endPacket | buildFrame => cases h; exact .completes_silently rfl _

section
variable {i : Instr} {s t : State}

theorem StepEnd.fb_eq (h : StepEnd i s t) : t.core.fb = s.core.fb := by
  cases h <;> simp [sessionLost]

theorem StepEnd.cur_eq (h : StepEnd i s t) : t.core.cur = s.core.cur := by
  cases h <;> simp [sessionLost]

theorem StepEnd.trace_grows (h : StepEnd i s t) : ∃ es, t.trace = s.trace ++ es := by
  cases h with
  | waits | modeFails => exact ⟨[], (List.append_nil _).symm⟩
  | completes e es | transportFails _ e es => exact ⟨es, rfl⟩

/-- Only a success moves the sequencer forward; C_RESET has no other end. -/
theorem StepEnd.seq_cases (h : StepEnd i s t) :
    t.core.seq = (completedCore s.params i s.core).seq ∨
    (i ≠ .cReset ∧ (t.core.seq = s.core.seq ∨ t.core.seq = .idleUnconf)) := by
  cases h with
  | waits hi => exact .inr ⟨hi, .inl rfl⟩
  | completes => exact .inl rfl
  | transportFails hi => exact .inr ⟨hi, .inr rfl⟩
  | modeFails hi => exact .inr ⟨by rcases hi with rfl | rfl <;> simp, .inr rfl⟩

end

/-! ## Host commands -/

/-- How a host command can end in a next state (R35, R140, R231, R236, R252). -/
inductive CommandEnd (s : State) : State → Prop
  | ignored (h : busy s.core.seq = true) : CommandEnd s s
  | refused (h : idle s.core) (e : Err) (he : endsSession e = false) :
    CommandEnd s { s with core := refusedWith s.core (errCode e) }
  | configures (h : idle s.core) (f : BitVec 32) (p : BitVec 8) (hf : freqValid f = true) :
    CommandEnd s { s with core := { accepted s.core with
      cur := .configure, freqHz := f, powerReq := p, shadowMode := .unknown, plenCache := none, txModeSet := false,
      seq := .cReset } }
  | transmits (h : s.core.seq = .idleReady) (a : NetAddr) (d : Device) (c : Action) :
    CommandEnd s (startTransmit a d c { s with core := accepted s.core })
  | builds (h : s.core.seq = .idleReady) (a : NetAddr) (d : Device) (c : Action) :
    CommandEnd s (startBuildFrame a d c { s with core := accepted s.core })

theorem accept_next_cases {s t : State} {body : State → Out} (h : accept s body = .next t) :
    (busy s.core.seq = true ∧ t = s) ∨ idle s.core := by
  cases hq : s.core.seq with
  | idleUnconf => exact .inr (.inl hq)
  | idleReady => exact .inr (.inr hq)
  | reserved15 => simp [accept, hq] at h
  | _ =>
    rw [accept_busy (by rw [hq]; rfl)] at h
    cases h; exact .inl ⟨rfl, rfl⟩

theorem accept_commandEnd {s t : State} {body : State → Out} (hb : idle s.core → CommandEnd s t)
    (h : accept s body = .next t) : CommandEnd s t := by
  rcases accept_next_cases h with ⟨hbusy, rfl⟩ | hidle
  · exact .ignored hbusy
  · exact hb hidle

theorem configure_commandEnd {s t : State} {f : BitVec 32} {p : BitVec 8}
    (h : accept s (startConfigure f p) = .next t) : CommandEnd s t := by
  refine accept_commandEnd (fun hidle => ?_) h
  rw [accept_configure hidle] at h
  split at h
  · next hf => cases h; exact .configures hidle f p hf
  · cases h; exact .refused hidle .invalidParameter rfl

theorem gated_commandEnd {s t : State} {x y z : Byte} {go : NetAddr → Device → Action → State → State}
    (hgo : s.core.seq = .idleReady → ∀ a d c, CommandEnd s (go a d c { s with core := accepted s.core }))
    (h : accept s (gated x y z go) = .next t) : CommandEnd s t := by
  refine accept_commandEnd (fun hidle => ?_) h
  rw [accept_gated hidle] at h
  split at h
  · cases h; exact .refused hidle .invalidParameter rfl
  · split at h
    · next hq => cases h; exact hgo hq _ _ _
    · cases h; exact .refused hidle .configNotComplete rfl

/-- Every host command: what it did when it answers a next state. -/
theorem exec_commandEnd {i : Instr} {s t : State} (hi : isHostCommand i = true) (h : exec i s = .next t) :
    CommandEnd s t := by
  cases i with
  | configure | configureDefault => exact configure_commandEnd h
  | transmit | on | off => exact gated_commandEnd .transmits h
  | buildFrameCmd => exact gated_commandEnd .builds h
  | illegal =>
    refine accept_commandEnd (fun hidle => ?_) h
    rw [exec_illegal, accept_illegal hidle] at h
    cases h; exact .refused hidle .illegalCommand rfl
  | _ => cases hi

theorem CommandEnd.trace_eq {s t : State} (h : CommandEnd s t) : t.trace = s.trace := by
  cases h <;> rfl

/-! ## All instructions -/

theorem exec_trace_grows {i : Instr} {s t : State} (h : exec i s = .next t) : ∃ es, t.trace = s.trace ++ es := by
  cases hi : isHostCommand i with
  | false => exact (exec_stepEnd hi h).trace_grows
  | true => exact ⟨[], by rw [(exec_commandEnd hi h).trace_eq, List.append_nil]⟩

theorem exec_keeps_fb_wf {i : Instr} {s t : State} (h : exec i s = .next t) (hw : Memory.wf s.core.fb = true) :
    Memory.wf t.core.fb = true := by
  cases hi : isHostCommand i with
  | false => rw [(exec_stepEnd hi h).fb_eq]; exact hw
  | true =>
    cases exec_commandEnd hi h with
    | ignored | refused | configures => exact hw
    | transmits | builds => exact memWriteAll_wf _ _ hw

theorem step_keeps_fb_wf {s t : State} (h : step s = .next t) (hw : Memory.wf s.core.fb = true) :
    Memory.wf t.core.fb = true := by
  obtain ⟨-, ⟨-, rfl⟩ | ⟨-, -, ⟨-, rfl⟩ | ⟨-, rfl⟩ | ⟨i, u, hf, hx⟩⟩⟩ := step_cases h
  · exact reset_fb_wf
  · exact hw
  · exact hw
  · refine exec_keeps_fb_wf hx ?_
    obtain ⟨r, -, -, rfl⟩ | ⟨-, -, rfl⟩ | ⟨-, -, w, ws, -, -, rfl⟩ := fetch_cases hf <;> exact hw

end Sys2Proof.Machine
end

section
/-! The frame buffer as a whole: canonical buffers with the same 195 bytes are the same list, a frame has 195 bytes, and
loading one forgets what the buffer held. -/

namespace Sys2Proof.Machine

theorem memRead_outside {k : Nat} (hk : frameLen ≤ k) :
    ∀ {m : List Host.Cell}, (∀ c ∈ m, c.1 < frameLen) → memRead m k = fbDefault
  | [], _ => rfl
  | (b, w) :: m, h => by
    have hb : b < frameLen := h (b, w) List.mem_cons_self
    simp only [memRead, show ¬ b = k by omega, if_false]
    exact memRead_outside hk fun c hc => h c (List.mem_cons_of_mem _ hc)

theorem Memory.wf_inside {m : List Host.Cell} (h : Memory.wf m = true) : ∀ c ∈ m, c.1 < frameLen := by
  simp only [Memory.wf, Bool.and_eq_true, List.all_eq_true, decide_eq_true_eq] at h
  exact h.2

/-- Canonical buffers that show the same bytes are equal. -/
theorem eq_of_fbBytes_eq {m m' : List Host.Cell} (h : Memory.wf m = true) (h' : Memory.wf m' = true)
    (e : fbBytes m = fbBytes m') : m = m' := by
  refine memWfAbove_ext (Memory.wf_above h) (Memory.wf_above h') fun k => ?_
  by_cases hk : k < frameLen
  · exact List.map_inj_left.mp e k (List.mem_range.mpr hk)
  · rw [memRead_outside (by omega) (Memory.wf_inside h), memRead_outside (by omega) (Memory.wf_inside h')]

theorem pack_length : ∀ ns : List Nibble, (pack ns).length = ns.length / 2
  | [] => rfl
  | [_] => by simp [pack]
  | hi :: lo :: ns => by
    rw [pack_cons, List.length_cons, pack_length ns, List.length_cons, List.length_cons]
    omega

theorem cmdSyms_length (p : Params) (a : NetAddr) (d : Device) (c : Action) : (cmdSyms p a d c).length = 26 := by
  cases c <;> rfl

theorem endSyms_length (p : Params) (a : NetAddr) : (endSyms p a).length = 26 := by
  have haddr : (addrField a).length = 10 := rfl
  have htail : (endField p).length = 14 := by simp [endField, List.length_flatMap]
  simp [endSyms, haddr, htail, sep, pad]

theorem buildFrame_length (p : Params) (a : NetAddr) (d : Device) (c : Action) :
    (buildFrame p a d c).length = frameLen := by
  have hc : (cmdPacket p a d c).length = 13 := by rw [cmdPacket, pack_length, cmdSyms_length]
  have he : (endPacket p a).length = 13 := by rw [endPacket, pack_length, endSyms_length]
  simp [buildFrame, hc, he, cmdRepeat, endRepeat, frameLen]

/-- A loaded frame is all the buffer shows. -/
theorem fbBytes_loadFrame {m : List Host.Cell} (h : Memory.wf m = true) (p : Params) (a : NetAddr) (d : Device)
    (c : Action) : fbBytes (memWriteAll m 0 (buildFrame p a d c)) = buildFrame p a d c :=
  fbBytes_memWriteAll h (buildFrame_length p a d c)

/-- Loading a frame gives the same buffer over any old contents. -/
theorem loadFrame_over {m m' : List Host.Cell} (h : Memory.wf m = true) (h' : Memory.wf m' = true) (p : Params)
    (a : NetAddr) (d : Device) (c : Action) :
    memWriteAll m 0 (buildFrame p a d c) = memWriteAll m' 0 (buildFrame p a d c) :=
  eq_of_fbBytes_eq (memWriteAll_wf _ _ h) (memWriteAll_wf _ _ h')
    ((fbBytes_loadFrame h p a d c).trans (fbBytes_loadFrame h' p a d c).symm)

theorem fbSlice_congr {s t : State} (h : s.core.fb = t.core.fb) (n : Nat) :
    ∀ pos : Nat, fbSlice s pos n = fbSlice t pos n := by
  induction n with
  | zero => exact fun _ => rfl
  | succ n ih => intro pos; simp only [fbSlice, fbRead, h, ih]

end Sys2Proof.Machine
end

section
/-! What a step can see of a state: everything but the five fields R40 leaves unspecified, the frame buffer only while a
TRANSMIT is in flight. -/

namespace Sys2Proof.Machine

/-! ## The observed state -/

/-- The codes of the transmit steps, in which a TRANSMIT is in flight. -/
def sending : Seq → Bool
  | .tPayload | .tMode | .tFifo => true
  | _ => false

theorem sending_iff (q : Seq) : sending q = true ↔ q = .tPayload ∨ q = .tMode ∨ q = .tFifo := by
  cases q <;> simp [sending]

/-- The state with each value that no step reads put to a fixed one. -/
def observed (s : State) : State :=
  { s with core := { s.core with
      frf := 0, paDac := 0, paConfig := 0, cur := .configure, fb := if sending s.core.seq then s.core.fb else [] } }

/-- The answer of a step, as far as later steps see it. -/
def observedOut : Out → Out
  | .next s => .next (observed s)
  | .fault f => .fault f
  | .refused r => .refused r

theorem observedOut_next {s t : State} (h : observed s = observed t) : observedOut (.next s) = observedOut (.next t) :=
  congrArg Host.Outcome.next h

/-- What a step finds to do, as far as it can be seen. -/
def Fetched.observed : Fetched → Fetched
  | .run i s => .run i (Machine.observed s)
  | .idle => .idle
  | .wait => .wait
  | .reserved => .reserved
  | .rejected r => .rejected r

theorem observed_fb {s : State} (h : sending s.core.seq = true) : (observed s).core.fb = s.core.fb := if_pos h

/-- While a TRANSMIT is in flight the buffer is seen whole. -/
theorem observed_of_sending {s : State} (h : sending s.core.seq = true) :
    observed s = { s with core := { s.core with frf := 0, paDac := 0, paConfig := 0, cur := .configure } } := by
  rw [observed, if_pos h]

theorem observed_fb_wf {s : State} (h : Memory.wf s.core.fb = true) : Memory.wf (observed s).core.fb = true := by
  cases hq : sending s.core.seq
  · simp [observed, hq, Memory.wf, memWfAbove]
  · rw [observed_fb hq]; exact h

@[simp] theorem observed_observed (s : State) : observed (observed s) = observed s := by
  cases hq : sending s.core.seq <;> simp [observed, hq]

/-- The relation of the statement is equality of what can be seen, on canonical buffers. -/
theorem sameButUnspecified_iff (s t : State) : sameButUnspecified s t ↔
    Memory.wf s.core.fb = true ∧ Memory.wf t.core.fb = true ∧ observed s = observed t := by
  simp only [sameButUnspecified, ← sending_iff]
  refine and_congr_right fun hs => and_congr_right fun ht => ⟨?_, fun h => ⟨fun hq => ?_, ?_⟩⟩
  · rintro ⟨hfb, h⟩
    have hseq : s.core.seq = t.core.seq := congrArg (·.core.seq) h
    have hbuf : (if sending s.core.seq then s.core.fb else []) = if sending t.core.seq then t.core.fb else [] := by
      rw [← hseq]
      split
      · next hq => exact eq_of_fbBytes_eq hs ht (hfb hq)
      · rfl
    have hview := congrArg (fun u : State => { u with core := { u.core with
      fb := if sending s.core.seq then s.core.fb else [] } }) h
    exact hview.trans (by simp only [observed, hbuf])
  · have hseq : s.core.seq = t.core.seq := congrArg (·.core.seq) h
    rw [← observed_fb hq, h, observed_fb (hseq ▸ hq)]
  · exact congrArg (fun u : State => { u with core := { u.core with fb := [] } }) h

/-! ## The shared operations -/

theorem raiseErr_observed (e : Err) (q : Seq) (s : State) :
    observed (raiseErr e q s) = observed (raiseErr e q (observed s)) := by
  cases he : endsSession e
  · rw [raiseErr_acceptance he, raiseErr_acceptance he]
    cases hq : sending s.core.seq <;> simp [observed, hq]
  · rw [raiseErr_execution he, raiseErr_execution he]; rfl

/-- A step that issues writes sees no more than its start and its end do. -/
theorem runWrites_observed (outs : List (List Byte)) {s s0 t0 : State} {finish : State → State}
    (h0 : observed s0 = observed t0)
    (hf : ∀ e tr, observed (finish { s0 with env := e, trace := tr }) =
      observed (finish { t0 with env := e, trace := tr })) :
    observedOut (runWrites outs s s0 finish) = observedOut (runWrites outs (observed s) t0 finish) := by
  have henv : t0.env = s0.env := (congrArg State.env h0).symm
  have htrace : t0.trace = s0.trace := (congrArg State.trace h0).symm
  have hlost : ∀ e tr q, observed (raiseErr .transportFailure q { s0 with env := e, trace := tr }) =
      observed (raiseErr .transportFailure q { t0 with env := e, trace := tr }) := fun e tr q => by
    have hu : observed { s0 with env := e, trace := tr } = observed { t0 with env := e, trace := tr } :=
      congrArg (fun u : State => { u with env := e, trace := tr }) h0
    rw [raiseErr_observed, hu, ← raiseErr_observed]
  rcases issue_cases outs s0 with ⟨bs, e, hl, he, hx⟩ | ⟨bs, o, r, k, e, hl, he, hx⟩ | ⟨bs, hl, he, hx⟩
  · rw [runWrites, runWrites, hx, issue_allOk outs t0 bs e hl (henv.trans he), htrace]
    exact observedOut_next (hf _ _)
  · rw [runWrites, runWrites, hx, issue_failed outs t0 bs o r k e hl (henv.trans he), htrace]
    exact observedOut_next (hlost _ _ _)
  · rw [runWrites, runWrites, hx, issue_unanswered outs t0 bs hl (henv.trans he)]
    exact observedOut_next (observed_observed s).symm

theorem requireSleep_observed {s : State} {o o' : Out} (h : observedOut o = observedOut o') :
    observedOut (requireSleep s o) = observedOut (requireSleep (observed s) o') := by
  unfold requireSleep
  split
  · next hm => rw [if_pos (show (observed s).core.shadowMode = .sleep from hm)]; exact h
  · next hm =>
    rw [if_neg (show ¬ (observed s).core.shadowMode = .sleep from hm)]
    exact observedOut_next (raiseErr_observed _ _ _)

/-! ## Host commands -/

theorem refuseCommand_observed (e : Err) (s : State) :
    observedOut (refuseCommand e s) = observedOut (refuseCommand e (observed s)) :=
  observedOut_next (raiseErr_observed e s.core.seq s)

theorem accept_observed {s : State} {body : State → Out}
    (hb : observedOut (body (clearForCommand s)) = observedOut (body (observed (clearForCommand s)))) :
    observedOut (accept s body) = observedOut (accept (observed s) body) := by
  have hseq : (observed s).core.seq = s.core.seq := rfl
  have hclear : clearForCommand (observed s) = observed (clearForCommand s) := rfl
  unfold accept
  rw [hseq, hclear]
  split
  · exact hb
  · exact hb
  · rfl
  all_goals exact observedOut_next (observed_observed s).symm

theorem startConfigure_observed (f : BitVec 32) (p : BitVec 8) (s : State) :
    observedOut (startConfigure f p s) = observedOut (startConfigure f p (observed s)) := by
  unfold startConfigure
  split
  · rfl
  · exact refuseCommand_observed _ s

theorem gated_observed {x y z : Byte} {go : NetAddr → Device → Action → State → State} {s : State}
    (hgo : ∀ a d c, observed (go a d c s) = observed (go a d c (observed s))) :
    observedOut (gated x y z go s) = observedOut (gated x y z go (observed s)) := by
  have hseq : (observed s).core.seq = s.core.seq := rfl
  unfold gated
  rw [hseq]
  split
  · exact refuseCommand_observed _ s
  · split
    · exact observedOut_next (hgo _ _ _)
    · exact refuseCommand_observed _ s

theorem startTransmit_observed {s : State} (hw : Memory.wf s.core.fb = true) (a : NetAddr) (d : Device) (c : Action) :
    observed (startTransmit a d c s) = observed (startTransmit a d c (observed s)) := by
  rw [startTransmit, startTransmit, loadFrame_over hw (observed_fb_wf hw)]
  rfl

theorem startBuildFrame_observed {s : State} (hw : Memory.wf s.core.fb = true) (a : NetAddr) (d : Device) (c : Action) :
    observed (startBuildFrame a d c s) = observed (startBuildFrame a d c (observed s)) := by
  rw [startBuildFrame, startBuildFrame, loadFrame_over hw (observed_fb_wf hw)]
  rfl

end Sys2Proof.Machine
end

section
/-! Every instruction, the fetch and the step see the observed state only; the unspecified reset values are never read. -/

namespace Sys2Proof.Machine

/-! ## Instructions -/

/-- The transmit steps, which read or keep the frame of a TRANSMIT in flight. -/
def isTransmitStep (i : Instr) : Prop := i = .tPayload ∨ i = .tMode ∨ i = .tFifo

/-- A step that computes no field before its writes. -/
theorem runWrites_observed_self (outs : List (List Byte)) {s : State} {finish : State → State}
    (hf : ∀ e tr, observed (finish { s with env := e, trace := tr }) =
      observed (finish { observed s with env := e, trace := tr })) :
    observedOut (runWrites outs s s finish) = observedOut (runWrites outs (observed s) (observed s) finish) :=
  runWrites_observed outs (observed_observed s).symm hf

theorem execTPayload_observed {s : State} (hs : sending s.core.seq = true) :
    observedOut (execTPayload s) = observedOut (execTPayload (observed s)) := by
  have hplen : (observed s).core.plenCache = s.core.plenCache := rfl
  unfold execTPayload
  rw [hplen]
  split
  · exact observedOut_next (by rw [observed_of_sending hs]; rfl)
  · exact runWrites_observed_self _ fun _ _ => by rw [observed_of_sending hs]; rfl

theorem execTMode_observed {s : State} (hs : sending s.core.seq = true) :
    observedOut (execTMode s) = observedOut (execTMode (observed s)) := by
  have hset : (observed s).core.txModeSet = s.core.txModeSet := rfl
  unfold execTMode
  rw [hset]
  split
  · exact observedOut_next (by rw [observed_of_sending hs]; rfl)
  · exact runWrites_observed_self _ fun _ _ => by rw [observed_of_sending hs]; rfl

theorem execTFifo_observed {s : State} (hs : sending s.core.seq = true) :
    observedOut (execTFifo s) = observedOut (execTFifo (observed s)) := by
  have hchunk : (observed s).params.fifoChunks[(observed s).core.chunkIdx]? = s.params.fifoChunks[s.core.chunkIdx]? := rfl
  have hpos : (observed s).core.fifoPos = s.core.fifoPos := rfl
  unfold execTFifo
  rw [hchunk, hpos]
  split
  · rfl
  · rw [fbSlice_congr (observed_fb hs)]
    split
    · rfl
    · exact runWrites_observed_self _ fun _ _ => by rw [observed_of_sending hs]; rfl

theorem execWrBurst_observed (a : RegAddr) (bs : List Byte) (s : State) :
    observedOut (execWrBurst a bs s) = observedOut (execWrBurst a bs (observed s)) := by
  unfold execWrBurst
  split
  · rfl
  · exact runWrites_observed_self _ fun e tr => (observed_observed { s with env := e, trace := tr }).symm

theorem execRd_observed (a : RegAddr) (s : State) :
    observedOut (execRd a s) = observedOut (execRd a (observed s)) := by
  have henv : (observed s).env = s.env := rfl
  simp only [execRd, henv]
  split
  · exact observedOut_next (observed_observed s).symm
  · next b env' _ =>
    exact observedOut_next (observed_observed ((State.emit { s with env := env' } _).returns [b])).symm
  · next k env' _ => exact observedOut_next (raiseErr_observed _ _ (State.emit { s with env := env' } _))

theorem returns_observed (s : State) (bs : List Byte) :
    observedOut (.next (s.returns bs)) = observedOut (.next ((observed s).returns bs)) :=
  observedOut_next (observed_observed (s.returns bs)).symm

/-- What an instruction answers depends on the observed state only; a transmit step is run while a TRANSMIT is in flight. -/
theorem exec_observed {i : Instr} {s : State} (hw : Memory.wf s.core.fb = true)
    (hs : isTransmitStep i → sending s.core.seq = true) :
    observedOut (exec i s) = observedOut (exec i (observed s)) := by
  have hwc : Memory.wf (clearForCommand s).core.fb = true := hw
  cases i with
  | configure | configureDefault => exact accept_observed (startConfigure_observed _ _ _)
  | transmit | on | off => exact accept_observed (gated_observed (startTransmit_observed hwc))
  | buildFrameCmd => exact accept_observed (gated_observed (startBuildFrame_observed hwc))
  | illegal => exact accept_observed (refuseCommand_observed _ _)
  | cReset => rfl
  | cSleep | cStandby | cPreamble | cPacket | cPayload | cShaping => exact runWrites_observed_self _ fun _ _ => rfl
  | cBitrate => exact requireSleep_observed (runWrites_observed_self _ fun _ _ => rfl)
  | cFreq =>
    refine requireSleep_observed (runWrites_observed _ ?_ fun _ _ => rfl)
    exact congrArg (fun u : State => u.withCore (u.core.setFrf 0)) (observed_observed s).symm
  | cPower =>
    refine runWrites_observed _ ?_ fun _ _ => rfl
    exact congrArg (fun u : State => u.withCore (u.core.setPa 0 0)) (observed_observed s).symm
  | tPayload => exact execTPayload_observed (hs (.inl rfl))
  | tMode => exact execTMode_observed (hs (.inr (.inl rfl)))
  | tFifo => exact execTFifo_observed (hs (.inr (.inr rfl)))
  | wr a v => exact runWrites_observed_self _ fun e tr => (observed_observed { s with env := e, trace := tr }).symm
  | wrBurst a bs => exact execWrBurst_observed a bs s
  | rd a => exact execRd_observed a s
  | zero | one | silence | cmdPacket | endPacket | buildFrame => exact returns_observed s _

/-! ## The fetch and the step -/

theorem fetch_observed (s : State) : fetch (observed s) = (fetch s).observed := by
  have hunit : (observed s).unit = s.unit := rfl
  have hseq : (observed s).core.seq = s.core.seq := rfl
  have henv : (observed s).env = s.env := rfl
  have hhost : (observed s).host = s.host := rfl
  unfold fetch
  rw [hunit, hseq]
  split
  · unfold fetchUnit
    rw [henv]
    split
    · rfl
    · split <;> rfl
  · split
    · rfl
    · rfl
    · unfold fetchCommand
      rw [hhost]
      split <;> rfl

theorem decodeCmd_isHostCommand (w : CmdWord) : isHostCommand (decodeCmd w) = true := by
  unfold decodeCmd
  repeat' split
  all_goals rfl

theorem sending_of_decodeStep {q : Seq} {i : Instr} (h : decodeStep (seqCode q) = .instr i) (hi : isTransmitStep i) :
    sending q = true := by
  cases q with
  | tPayload | tMode | tFifo => rfl
  | _ => cases h <;> simp [isTransmitStep] at hi

/-- A transmit step is fetched only from the code that names it (R23). -/
theorem sending_of_fetched_transmitStep {s u : State} {i : Instr} (h : fetch s = .run i u) (hi : isTransmitStep i) :
    sending u.core.seq = true := by
  obtain ⟨r, -, hd, -⟩ | ⟨-, hd, rfl⟩ | ⟨-, -, w, ws, -, rfl, -⟩ := fetch_cases h
  · rcases hi with rfl | rfl | rfl <;> simpa using decodeUnit_cases hd
  · exact sending_of_decodeStep hd hi
  · have hcmd := decodeCmd_isHostCommand w
    rcases hi with hi | hi | hi <;> rw [hi] at hcmd <;> cases hcmd

theorem step_observed {s : State} (hw : Memory.wf s.core.fb = true) :
    observedOut (step s) = observedOut (step (observed s)) := by
  have hparams : (observed s).params = s.params := rfl
  have hreset : (observed s).resetReq = s.resetReq := rfl
  have herr : (observed s).core.lastErr = s.core.lastErr := rfl
  unfold step
  rw [hparams, hreset, herr, fetch_observed]
  split
  · rfl
  split
  · rfl
  split
  · rfl
  cases hf : fetch s with
  | idle | wait => exact observedOut_next (observed_observed s).symm
  | reserved | rejected => rfl
  | run i u =>
    refine exec_observed ?_ (sending_of_fetched_transmitStep hf)
    obtain ⟨r, -, -, rfl⟩ | ⟨-, -, rfl⟩ | ⟨-, -, w, ws, -, -, rfl⟩ := fetch_cases hf <;> exact hw

/-! ## The statement -/

/-- Two states that look alike are answered alike. -/
theorem step_observed_eq {s t : State} (h : sameButUnspecified s t) : observedOut (step s) = observedOut (step t) := by
  obtain ⟨hs, ht, hst⟩ := (sameButUnspecified_iff s t).mp h
  rw [step_observed hs, hst, ← step_observed ht]

/-- Settles O9: what a step answers is a function of the observed state, and the two states look alike. -/
theorem unspecifiedResetValuesAreNeverRead : Obligations.UnspecifiedResetValuesAreNeverRead := by
  intro s t h
  have hanswer := step_observed_eq h
  obtain ⟨hs, ht, -⟩ := (sameButUnspecified_iff s t).mp h
  refine ⟨fun s' hx => ?_, fun f hx => ?_, fun r hx => ?_⟩
  · rw [hx] at hanswer
    cases hy : step t with
    | next t' =>
      rw [hy] at hanswer
      exact ⟨t', rfl, (sameButUnspecified_iff s' t').mpr
        ⟨step_keeps_fb_wf hx hs, step_keeps_fb_wf hy ht, Host.Outcome.next.inj hanswer⟩⟩
    | fault | refused => rw [hy] at hanswer; cases hanswer
  · rw [hx] at hanswer
    cases hy : step t <;> rw [hy] at hanswer <;> cases hanswer
    rfl
  · rw [hx] at hanswer
    cases hy : step t <;> rw [hy] at hanswer <;> cases hanswer
    rfl

end Sys2Proof.Machine
end

section
/-! STATUS, bit by bit (R34), with the predicates of R22. -/

namespace Sys2Proof.Machine

/-- The predicates of R22 by the codes of R21. -/
theorem cfgDone_eq_code (q : Seq) : cfgDone q = decide ((seqCode q).toNat ∈ [11, 12, 13, 14]) := by
  cases q <;> rfl

theorem busy_eq_code (q : Seq) :
    busy q = decide ((seqCode q).toNat ∈ [1, 2, 3, 4, 5, 6, 7, 8, 9, 10, 12, 13, 14]) := by
  cases q <;> rfl

/-- Every bit of STATUS, by the field it lies in. -/
theorem status_getLsbD (s : State) (i : Nat) :
    (status s).getLsbD i =
      if i < 4 then (seqCode s.core.seq).getLsbD i
      else if i < 5 then cfgDone s.core.seq
      else if i < 6 then busy s.core.seq
      else if i < 7 then s.core.txModeSet
      else if i < 8 then s.core.plenCache.isSome
      else if i < 11 then s.core.lastErr.getLsbD (i - 8)
      else if i < 12 then false
      else if i < 16 then (seqCode s.core.errStep).getLsbD (i - 12)
      else if i < 18 then (modeCode s.core.shadowMode).getLsbD (i - 16)
      else false := by
  have hlt (a b : Nat) (hb : 0 < b) : i - a < b ↔ i < a + b := by omega
  have hzero (a : Nat) : i - a = 0 ↔ i < a + 1 := by omega
  change BitVec.getLsbD (w := 14 + 2 + 4 + 1 + 3 + 1 + 1 + 1 + 1 + 4) (statusOf s.core) i = _
  unfold statusOf
  simp only [BitVec.getLsbD_append]
  simp (disch := decide) only [Nat.sub_sub, Nat.reduceAdd, BitVec.getLsbD_ofBool, BitVec.ofNat_eq_ofNat,
    BitVec.getLsbD_zero, hlt, hzero]
  grind

/-- Settles O6: each field is read bit by bit. -/
theorem statusReadsEveryField : Obligations.StatusReadsEveryField := by
  intro s
  have hcached : decide (s.core.plenCache ≠ none) = s.core.plenCache.isSome := by cases s.core.plenCache <;> rfl
  rw [← cfgDone_eq_code, ← busy_eq_code, hcached]
  simp only [status_getLsbD]
  refine ⟨?_, rfl, rfl, rfl, rfl, ?_, rfl, ?_, ?_, ?_⟩
  all_goals
    refine BitVec.eq_of_getLsbD_eq fun i hi => ?_
    simp (disch := omega) only [BitVec.getLsbD_extractLsb', hi, decide_true, Bool.true_and, status_getLsbD, if_pos,
      if_neg, if_true, Nat.add_sub_cancel_left, Nat.zero_add, BitVec.ofNat_eq_ofNat, BitVec.getLsbD_zero]

end Sys2Proof.Machine
end

section
/-! What a step takes from its inputs and where it may move the sequencer: the source of the instruction it runs, the busy
core, the codes it may reach, the trace and the faults. -/

namespace Sys2Proof.Machine

/-! ## The reset -/

/-- Settles O1: `Core.reset` lists the values of R40. -/
theorem resetGivesTheStatedValues : Obligations.ResetGivesTheStatedValues := by
  intro s
  refine ⟨?_, rfl, rfl⟩
  rintro c (rfl | rfl) <;> exact ⟨rfl, rfl, rfl, rfl, rfl, rfl, rfl, rfl, rfl, rfl, rfl⟩

/-! ## What is fetched -/

theorem decodeStep_of_idle {c : Core} (h : idle c) : decodeStep (seqCode c.seq) = .rejected .idleCode := by
  rcases h with h | h <;> rw [h] <;> rfl

theorem fetch_of_unit {s : State} {u : UnitReq} (h : s.unit = some u) : fetch s = fetchUnit u s := by
  rw [fetch, h]

theorem fetch_of_no_word {s : State} (hu : s.unit = none) (hi : idle s.core) (hw : s.host = []) : fetch s = .idle := by
  simp only [fetch, hu, decodeStep_of_idle hi, fetchCommand, hw]

theorem fetch_of_reserved {s : State} (hu : s.unit = none) (hq : s.core.seq = .reserved15) : fetch s = .reserved := by
  rw [fetch, hu, hq]; rfl

theorem fetchUnit_run {u : UnitReq} {i : Instr} {s : State} (hd : decodeUnit u = .instr i)
    (ha : needsAnswer i = true → s.env ≠ []) : fetchUnit u s = .run i { s with unit := none } := by
  have hready : (needsAnswer i && s.env.isEmpty) = false := by
    cases hn : needsAnswer i
    · rfl
    · simpa using ha hn
  simp [fetchUnit, hd, hready]

/-- Nothing to do is fetched by an idle core only. -/
theorem idle_of_fetch_idle {s : State} (h : fetch s = .idle) : idle s.core := by
  unfold fetch at h
  split at h
  · next u _ =>
    unfold fetchUnit at h
    split at h
    · cases h
    · split at h <;> cases h
  · split at h
    · cases h
    · cases h
    · next r hr hd =>
      cases hq : s.core.seq with
      | idleUnconf => exact .inl hq
      | idleReady => exact .inr hq
      | reserved15 => rw [hq] at hd; cases hd; exact absurd rfl hr
      | _ => rw [hq] at hd; cases hd

/-- Only a register operation presented to a leaf block waits at the fetch. -/
theorem fetch_ne_wait {s : State} (hu : s.unit = none) : fetch s ≠ .wait := by
  intro h
  simp only [fetch, hu] at h
  split at h
  · cases h
  · cases h
  · unfold fetchCommand at h
    split at h <;> cases h

/-- Settles O10: the fetch of each source, run by a live step. -/
theorem stepRunsTheFetchedInstruction : Obligations.StepRunsTheFetchedInstruction := by
  intro s hl
  refine ⟨fun w ws hu hi hw => step_of_host hl hu hi hw, fun hu hi hw => ?_, fun i hu hd => step_of_seq hl hu hd,
    fun u i hu hd ha => ?_⟩
  · rw [step_live hl, fetch_of_no_word hu hi hw]
  · rw [step_live hl, fetch_of_unit hu, fetchUnit_run hd ha]

/-! ## Reserved codes -/

theorem errReserved_of_toNat_le {e : BitVec 3} (h : e.toNat ≤ 5) : errReserved e = false := by
  revert h; revert e; decide

/-- Settles O12: the error code is looked at before the sequencer code. -/
theorem reservedCodesFault : Obligations.ReservedCodesFault := by
  intro s hp hr
  constructor
  · intro he
    have hres : errReserved s.core.lastErr = true := by rcases he with he | he <;> rw [he] <;> rfl
    simp [step, hp, hr, hres]
  · intro he hu hq
    rw [step_live ⟨hp, hr, errReserved_of_toNat_le he⟩, fetch_of_reserved hu hq]

/-! ## A busy core -/

theorem not_idle_of_busy {c : Core} (h : busy c.seq = true) : ¬ idle c := by
  rintro (hq | hq) <;> rw [hq] at h <;> cases h

theorem exec_command_busy {i : Instr} {s : State} (hi : isHostCommand i = true) (h : busy s.core.seq = true) :
    exec i s = .next s := by
  cases i with
  | configure | transmit | buildFrameCmd | configureDefault | on | off | illegal => exact accept_busy h
  | _ => cases hi

/-- Settles O24: a busy core's step fetches the sequencer's own instruction, which leaves the host's words alone. -/
theorem busyCoreTakesNoCommand : Obligations.BusyCoreTakesNoCommand := by
  intro s hbusy
  refine ⟨fun i hi => exec_command_busy hi hbusy, fun t hu hr h => ?_⟩
  obtain ⟨-, ⟨hreset, -⟩ | ⟨-, -, ⟨-, rfl⟩ | ⟨-, rfl⟩ | ⟨i, u, hf, hx⟩⟩⟩ := step_cases h
  · rw [hr] at hreset; cases hreset
  · rfl
  · rfl
  · obtain ⟨r, hr, -⟩ | ⟨-, -, rfl⟩ | ⟨-, hidle, -⟩ := fetch_cases hf
    · rw [hu] at hr; cases hr
    · exact (exec_inputs hx).2.1
    · exact absurd hidle (not_idle_of_busy hbusy)

/-! ## Where the sequencer moves -/

theorem decodeStep_not_hostCommand {q : Seq} {i : Instr} (h : decodeStep (seqCode q) = .instr i) :
    isHostCommand i = false := by
  cases q <;> cases h <;> rfl

/-- The step a code names succeeds into a code of the table; the error exit and the wait are there for all but C_RESET. -/
theorem seqMoves_of_decodeStep {p : Params} {c : Core} {i : Instr} (h : decodeStep (seqCode c.seq) = .instr i) :
    (completedCore p i c).seq ∈ seqMoves c.seq ∧
    (i ≠ .cReset → c.seq ∈ seqMoves c.seq ∧ Seq.idleUnconf ∈ seqMoves c.seq) := by
  cases hq : c.seq <;> rw [hq] at h <;> cases h
  case cReset => exact ⟨by simp [completedCore, finishedCore, seqMoves], fun hi => absurd rfl hi⟩
  case tMode =>
    refine ⟨?_, fun _ => by simp [seqMoves]⟩
    cases hx : c.txModeSet <;> simp [completedCore, finishedCore, startedCore, seqMoves, hx]
  case tFifo =>
    have hnext : (completedCore p .tFifo c).seq =
        if c.fifoPos + (p.fifoChunks[c.chunkIdx]?).getD 0 = frameLen then .idleReady else .tFifo := rfl
    refine ⟨?_, fun _ => by simp [seqMoves]⟩
    rw [hnext]
    split <;> simp [seqMoves]
  all_goals exact ⟨by simp [completedCore, finishedCore, seqMoves], fun _ => by simp [seqMoves]⟩

theorem StepEnd.seq_mem {i : Instr} {s t : State} (h : StepEnd i s t) (hd : decodeStep (seqCode s.core.seq) = .instr i) :
    t.core.seq ∈ seqMoves s.core.seq := by
  obtain ⟨hdone, hother⟩ := seqMoves_of_decodeStep (p := s.params) hd
  obtain hq | ⟨hi, hq | hq⟩ := h.seq_cases <;> rw [hq]
  · exact hdone
  · exact (hother hi).1
  · exact (hother hi).2

theorem idle_seq_mem {c : Core} (h : idle c) : c.seq ∈ seqMoves c.seq ∧ Seq.cReset ∈ seqMoves c.seq := by
  rcases h with h | h <;> simp [h, seqMoves]

theorem CommandEnd.seq_mem {s t : State} (h : CommandEnd s t) (hidle : idle s.core) :
    t.core.seq ∈ seqMoves s.core.seq := by
  cases h with
  | ignored | refused | builds => exact (idle_seq_mem hidle).1
  | configures => exact (idle_seq_mem hidle).2
  | transmits hq => rw [hq]; exact .tail _ (.tail _ (.head _))

/-- Settles O7: an idle core ends a command, a core in a step ends that step, and nothing else is fetched. -/
theorem sequencerMovesOnlyAsTabled : Obligations.SequencerMovesOnlyAsTabled := by
  intro s t hu hr h
  obtain ⟨-, ⟨hreset, -⟩ | ⟨-, -, ⟨hf, rfl⟩ | ⟨hf, rfl⟩ | ⟨i, u, hf, hx⟩⟩⟩ := step_cases h
  · rw [hr] at hreset; cases hreset
  · exact (idle_seq_mem (idle_of_fetch_idle hf)).1
  · exact absurd hf (fetch_ne_wait hu)
  · obtain ⟨r, hr, -⟩ | ⟨-, hd, rfl⟩ | ⟨-, hidle, w, ws, -, rfl, rfl⟩ := fetch_cases hf
    · rw [hu] at hr; cases hr
    · exact (exec_stepEnd (decodeStep_not_hostCommand hd) hx).seq_mem hd
    · exact (exec_commandEnd (decodeCmd_isHostCommand w) hx).seq_mem hidle

/-! ## The trace -/

/-- Settles O8: only a core reset empties the trace, and no step writes the configuration. -/
theorem traceGrowsAndParamsStay : Obligations.TraceGrowsAndParamsStay := by
  intro s t h
  obtain ⟨-, ⟨hreset, rfl⟩ | ⟨-, -, ⟨-, rfl⟩ | ⟨-, rfl⟩ | ⟨i, u, hf, hx⟩⟩⟩ := step_cases h
  · exact ⟨rfl, fun hr => by rw [hr] at hreset; cases hreset⟩
  · exact ⟨rfl, fun _ => ⟨[], (List.append_nil _).symm⟩⟩
  · exact ⟨rfl, fun _ => ⟨[], (List.append_nil _).symm⟩⟩
  · have hp := (exec_inputs hx).1
    have ht := exec_trace_grows hx
    obtain ⟨r, -, -, rfl⟩ | ⟨-, -, rfl⟩ | ⟨-, -, w, ws, -, -, rfl⟩ := fetch_cases hf <;> exact ⟨hp, fun _ => ht⟩

end Sys2Proof.Machine
end

section
/-! Who writes `cur` (R33, log entry 12). -/

namespace Sys2Proof.Machine

/-- A command that ends without an accepted command's effect leaves `cur`: it was not taken, or it recorded an error. -/
theorem CommandEnd.cur_eq {s t : State} (h : CommandEnd s t) (hx : busy s.core.seq = true ∨ t.core.lastErr ≠ 0) :
    t.core.cur = s.core.cur := by
  have notBusy : idle s.core → busy s.core.seq ≠ true := fun hi hb => not_idle_of_busy hb hi
  cases h with
  | ignored | refused => rfl
  | configures hidle =>
    obtain hb | he := hx
    · exact absurd hb (notBusy hidle)
    · exact absurd rfl he
  | transmits hq | builds hq =>
    obtain hb | he := hx
    · exact absurd hb (notBusy (.inr hq))
    · exact absurd rfl he

/-- `cur` is written by nothing but an accepted host command. -/
theorem exec_cur_eq {i : Instr} {s t : State} (h : exec i s = .next t)
    (hx : isHostCommand i = false ∨ busy s.core.seq = true ∨ t.core.lastErr ≠ 0) : t.core.cur = s.core.cur := by
  cases hi : isHostCommand i with
  | false => exact (exec_stepEnd hi h).cur_eq
  | true =>
    refine (exec_commandEnd hi h).cur_eq (hx.resolve_left ?_)
    rw [hi]; exact Bool.noConfusion

/-- A CONFIGURE that ends without error is the current command. -/
theorem cur_of_configured {s t : State} {f : BitVec 32} {p : BitVec 8} (hidle : idle s.core)
    (h : accept s (startConfigure f p) = .next t) (he : t.core.lastErr = 0) : t.core.cur = .configure := by
  rw [accept_configure hidle] at h
  split at h
  · cases h; rfl
  · cases h; cases he

/-- TRANSMIT and BUILD_FRAME with operands in range that end without error have taken them. -/
theorem gated_of_no_error {s t : State} {a : NetAddr} {d : Device} {c : Action}
    {go : NetAddr → Device → Action → State → State} (hidle : idle s.core)
    (h : accept s (gated (a.setWidth 8) (devByte d) (actByte c) go) = .next t) (he : t.core.lastErr = 0) :
    t = go a d c { s with core := accepted s.core } := by
  rw [accept_gated hidle, txOperands_fields] at h
  simp only at h
  split at h
  · cases h; rfl
  · cases h; cases he

/-- Settles O60: the record each accepted command leaves names it, and every other end keeps `cur`. -/
theorem acceptedCommandIsTheCurrentOne : Obligations.AcceptedCommandIsTheCurrentOne := by
  intro s t i h
  refine ⟨exec_cur_eq h, fun hidle he => ⟨?_, fun a d c => ⟨?_, ?_⟩⟩⟩
  · rintro (⟨dflt, p, f, rfl⟩ | rfl) <;> exact cur_of_configured hidle h he
  · rintro (rfl | ⟨rfl, rfl⟩ | ⟨rfl, rfl⟩)
    · rw [gated_of_no_error (go := startTransmit) hidle h he]; rfl
    · rw [gated_of_no_error (c := .on) (go := startTransmit) hidle h he]; rfl
    · rw [gated_of_no_error (c := .off) (go := startTransmit) hidle h he]; rfl
  · rintro rfl
    rw [gated_of_no_error (go := startBuildFrame) hidle h he]; rfl

end Sys2Proof.Machine
end

section
/-! Who writes the frame buffer (R60). -/

namespace Sys2Proof.Machine

/-- A read of the frame buffer looks at the buffer only. -/
theorem fbRead_congr {s t : State} (h : s.core.fb = t.core.fb) (k : Nat) : fbRead s k = fbRead t k := by
  simp only [fbRead, h]

/-- CONFIGURE, taken or refused, leaves the frame buffer. -/
theorem configure_fb_eq {s t : State} {f : BitVec 32} {p : BitVec 8}
    (h : accept s (startConfigure f p) = .next t) : t.core.fb = s.core.fb := by
  obtain ⟨-, rfl⟩ | hidle := accept_next_cases h
  · rfl
  · rw [accept_configure hidle] at h
    split at h <;> (cases h; rfl)

/-- An illegal word, refused or ignored, leaves the frame buffer. -/
theorem illegal_fb_eq {s t : State} (h : accept s (refuseCommand .illegalCommand) = .next t) :
    t.core.fb = s.core.fb := by
  obtain ⟨-, rfl⟩ | hidle := accept_next_cases h
  · rfl
  · rw [accept_illegal hidle] at h
    cases h; rfl

/-- Settles O46: a step or leaf operation keeps the buffer, and of the host commands those left are CONFIGURE, its pseudo
form and the illegal words. -/
theorem onlyFrameCommandsWriteTheBuffer : Obligations.OnlyFrameCommandsWriteTheBuffer := by
  intro i s t h hTransmit hBuild hOn hOff
  refine fbRead_congr ?_
  cases hi : isHostCommand i with
  | false => exact (exec_stepEnd hi h).fb_eq
  | true =>
    cases i with
    | configure | configureDefault => exact configure_fb_eq h
    | illegal => exact illegal_fb_eq h
    | transmit x y z => exact absurd rfl (hTransmit x y z)
    | buildFrameCmd x y z => exact absurd rfl (hBuild x y z)
    | on x y => exact absurd rfl (hOn x y)
    | off x y => exact absurd rfl (hOff x y)
    | _ => cases hi

end Sys2Proof.Machine
end

section
/-! Host command words and their fields (R82, R83, R85): which words match a row, what a word that matches one decodes to,
and that it is put together again from the fields read. -/

namespace Sys2Proof

/-- A word is a CONFIGURE: its opcode, and zeros in [55:41] (R82). -/
def isConfigureWord (w : CmdWord) : Prop := w.extractLsb' 56 8 = 0x01 ∧ w.extractLsb' 41 15 = 0

/-- A word is a TRANSMIT or BUILD_FRAME: its opcode, and zeros in [55:24] (R83). -/
def isTxWord (opc : Byte) (w : CmdWord) : Prop := w.extractLsb' 56 8 = opc ∧ w.extractLsb' 24 32 = 0

/-! ## The rows by match and mask -/

/-- The bits two neighbouring fields span hold two values side by side when each field holds its own. -/
theorem extractLsb'_eq_append_iff {n : Nat} (w : BitVec n) (i : Nat) {k l : Nat} (x : BitVec l) (y : BitVec k) :
    w.extractLsb' i (l + k) = x ++ y ↔ w.extractLsb' (i + k) l = x ∧ w.extractLsb' i k = y := by
  rw [← BitVec.extractLsb'_append_extractLsb'_eq_extractLsb' rfl]
  refine ⟨fun h => ⟨?_, ?_⟩, fun ⟨hx, hy⟩ => hx ▸ hy ▸ rfl⟩
  · simpa only [BitVec.extractLsb'_append_eq_left] using congrArg (BitVec.extractLsb' k l) h
  · simpa only [BitVec.extractLsb'_append_eq_right] using congrArg (BitVec.extractLsb' 0 k) h

/-- Masking all but the low `n` bits compares the bits above them. -/
theorem and_highMask_eq_iff {k n : Nat} (w : BitVec (k + n)) (hi : BitVec k) :
    w &&& (BitVec.allOnes k ++ 0#n) = hi ++ 0#n ↔ w.extractLsb' n k = hi := by
  conv_lhs => rw [← BitVec.extractLsb'_append_extractLsb' (x := w), BitVec.and_append, BitVec.and_allOnes,
    BitVec.and_zero]
  exact BitVec.append_left_inj _

theorem isConfigureWord_iff_mask (w : CmdWord) :
    isConfigureWord w ↔ w &&& 0xFFFFFE0000000000 = 0x0100000000000000 :=
  (extractLsb'_eq_append_iff w 41 0x01#8 0#15).symm.trans
    (and_highMask_eq_iff (k := 23) (n := 41) w (0x01#8 ++ 0#15)).symm

theorem isTxWord_iff_mask (opc : Byte) (w : CmdWord) :
    isTxWord opc w ↔ w &&& 0xFFFFFFFFFF000000 = opc ++ 0#32 ++ 0#24 :=
  (extractLsb'_eq_append_iff w 24 opc 0#32).symm.trans
    (and_highMask_eq_iff (k := 40) (n := 24) w (opc ++ 0#32)).symm

theorem matchesRow_iff (w : CmdWord) :
    matchesRow w = true ↔ isConfigureWord w ∨ isTxWord 0x02 w ∨ isTxWord 0x03 w := by
  simp only [matchesRow, Bool.or_eq_true, beq_iff_eq, isConfigureWord_iff_mask, isTxWord_iff_mask, or_assoc]
  exact Iff.rfl

/-! ## What a word decodes to -/

theorem decodeCmd_of_configure {w : CmdWord} (h : isConfigureWord w) :
    decodeCmd w = .configure (w.getLsbD 40) (w.extractLsb' 32 8) (w.extractLsb' 0 32) := by
  obtain ⟨hopc, hzero⟩ := h
  rw [decodeCmd, if_pos hopc, if_neg (not_not_intro hzero)]

theorem decodeCmd_of_transmit {w : CmdWord} (h : isTxWord 0x02 w) :
    decodeCmd w = .transmit (w.extractLsb' 0 8) (w.extractLsb' 8 8) (w.extractLsb' 16 8) := by
  obtain ⟨hopc, hzero⟩ := h
  rw [decodeCmd, hopc, if_neg (by decide), if_pos rfl, if_neg (not_not_intro hzero)]

theorem decodeCmd_of_buildFrame {w : CmdWord} (h : isTxWord 0x03 w) :
    decodeCmd w = .buildFrameCmd (w.extractLsb' 0 8) (w.extractLsb' 8 8) (w.extractLsb' 16 8) := by
  obtain ⟨hopc, hzero⟩ := h
  rw [decodeCmd, hopc, if_neg (by decide), if_neg (by decide), if_pos rfl, if_neg (not_not_intro hzero)]

theorem decodeCmd_of_no_row {w : CmdWord} (h : matchesRow w = false) : decodeCmd w = .illegal w := by
  have hno : ¬ (isConfigureWord w ∨ isTxWord 0x02 w ∨ isTxWord 0x03 w) := by
    rw [← matchesRow_iff, h]; exact Bool.false_ne_true
  obtain ⟨hconf, htx, hbuild⟩ := not_or.mp hno |>.imp_right not_or.mp
  unfold decodeCmd
  split_ifs with h1 hr h2 hr h3 hr
  · rfl
  · exact absurd ⟨h1, not_not.mp hr⟩ hconf
  · rfl
  · exact absurd ⟨h2, not_not.mp hr⟩ htx
  · rfl
  · exact absurd ⟨h3, not_not.mp hr⟩ hbuild
  · rfl

/-! ## A word from its fields -/

/-- A bit of a word is a field of width 1. -/
theorem ofBool_getLsbD_eq_extractLsb' {n : Nat} (w : BitVec n) (i : Nat) :
    BitVec.ofBool (w.getLsbD i) = w.extractLsb' i 1 := by
  refine BitVec.eq_of_getLsbD_eq fun j hj => ?_
  obtain rfl : j = 0 := by omega
  simp

theorem encodeConfigure_fields {w : CmdWord} (h : isConfigureWord w) :
    encodeConfigure (w.getLsbD 40) (w.extractLsb' 32 8) (w.extractLsb' 0 32) = w := by
  obtain ⟨hopc, hzero⟩ := h
  have hbit := ofBool_getLsbD_eq_extractLsb' w 40
  have hword : w.extractLsb' 0 (8 + 15 + 1 + 8 + 32) = encodeConfigure (w.getLsbD 40) (w.extractLsb' 32 8)
      (w.extractLsb' 0 32) := by
    simp only [encodeConfigure, extractLsb'_eq_append_iff, hopc, hzero, hbit, and_self]
  exact hword.symm.trans BitVec.extractLsb'_eq_self

theorem encodeTx_fields {opc : Byte} {w : CmdWord} (h : isTxWord opc w) :
    encodeTx opc (w.extractLsb' 0 8) (w.extractLsb' 8 8) (w.extractLsb' 16 8) = w := by
  obtain ⟨hopc, hzero⟩ := h
  have hword : w.extractLsb' 0 (8 + 32 + 8 + 8 + 8) = encodeTx opc (w.extractLsb' 0 8) (w.extractLsb' 8 8)
      (w.extractLsb' 16 8) := by
    simp only [encodeTx, extractLsb'_eq_append_iff, hopc, hzero, and_self]
  exact hword.symm.trans BitVec.extractLsb'_eq_self

/-- Settles O14, by the row the word matches, if any. -/
theorem encodeOfDecodedCommandAgrees : Obligations.EncodeOfDecodedCommandAgrees := by
  intro w
  cases hrow : matchesRow w with
  | false =>
    rw [decodeCmd_of_no_row hrow]
    exact ⟨rfl, by rw [wellFormed, hrow, Bool.not_false], rfl⟩
  | true =>
    obtain h | h | h := (matchesRow_iff w).mp hrow
    · rw [decodeCmd_of_configure h]
      exact ⟨congrArg Code.cmd (encodeConfigure_fields h), rfl, rfl⟩
    · rw [decodeCmd_of_transmit h]
      exact ⟨congrArg Code.cmd (encodeTx_fields h), rfl, rfl⟩
    · rw [decodeCmd_of_buildFrame h]
      exact ⟨congrArg Code.cmd (encodeTx_fields h), rfl, rfl⟩

/-- Settles O17: no row has such an opcode or such a bit, and an illegal word has one answer. -/
theorem reservedEncodingsAreIllegal : Obligations.ReservedEncodingsAreIllegal := by
  intro s w hidle hreserved
  have hrow : matchesRow w = false := by
    rw [← Bool.not_eq_true, matchesRow_iff]
    rintro (⟨hopc, hzero⟩ | ⟨hopc, hzero⟩ | ⟨hopc, hzero⟩) <;> simp [hopc, hzero] at hreserved
  exact ⟨decodeCmd_of_no_row hrow, (Machine.exec_illegal w s).trans (Machine.accept_illegal hidle)⟩

/-- Settles O15, by running the assembler, the encoder and the decoder on R89's words. -/
theorem exampleCommandWordsDecode : Obligations.ExampleCommandWordsDecode := by
  unfold Obligations.ExampleCommandWordsDecode
  decide

/-- Settles O16: CONFIGURE.DEFAULT starts with the default operands, ON and OFF run TRANSMIT's acceptance (R88). -/
theorem pseudoInstructionsAreTheirExpansions : Obligations.PseudoInstructionsAreTheirExpansions :=
  ⟨rfl, by decide, fun s => (Machine.exec_configureDefault s).trans (Machine.exec_configure false 5 433790000 s).symm,
    fun _ _ => ⟨rfl, rfl⟩, fun x y s =>
      ⟨(Machine.exec_on x y s).trans (Machine.exec_transmit x y 1 s).symm,
        (Machine.exec_off x y s).trans (Machine.exec_transmit x y 0 s).symm⟩⟩

end Sys2Proof
end

section
/-! The symbols of a packet by position, and the packets of a frame (R95, R97). -/

namespace Sys2Proof.Machine

/-! ## Fields of symbol pairs -/

theorem flatMap_pair_getElem? {α β : Type} (f g : α → β) : ∀ (l : List α) (i : Nat),
    (l.flatMap fun x => [f x, g x])[2 * i]? = l[i]?.map f ∧ (l.flatMap fun x => [f x, g x])[2 * i + 1]? = l[i]?.map g
  | [], _ => by simp
  | _ :: _, 0 => ⟨rfl, rfl⟩
  | _ :: l, i + 1 => flatMap_pair_getElem? f g l i

theorem addrField_getElem? (a : NetAddr) {i : Nat} (hi : i < 5) :
    (addrField a)[2 * i]? = some (sym (a.getLsbD (4 - i))) ∧ (addrField a)[2 * i + 1]? = some (sym true) := by
  have h := flatMap_pair_getElem? (fun i => sym (a.getLsbD (4 - i))) (fun _ => sym true) (List.range 5) i
  rwa [List.getElem?_range hi] at h

theorem devField_getElem? (p : Params) (d : Device) {q : Nat} (hq : q < 5) :
    (devField p d)[2 * q]? = some (sym (if q = devPos d then p.groupSel else p.groupFill).first) ∧
    (devField p d)[2 * q + 1]? = some (sym (if q = devPos d then p.groupSel else p.groupFill).second) := by
  have h := flatMap_pair_getElem? (fun q => sym (if q = devPos d then p.groupSel else p.groupFill).first)
    (fun q => sym (if q = devPos d then p.groupSel else p.groupFill).second) (List.range 5) q
  rwa [List.getElem?_range hq] at h

theorem endField_getElem? (p : Params) (q : Nat) :
    (endField p)[2 * q]? = p.endTail.toList[q]?.map (fun g => sym g.first) ∧
    (endField p)[2 * q + 1]? = p.endTail.toList[q]?.map (fun g => sym g.second) :=
  flatMap_pair_getElem? (fun g : Group => sym g.first) (fun g : Group => sym g.second) p.endTail.toList q

/-! ## The parts of a packet -/

/-- The two kinds of packet have one shape: the address, the separator, 14 symbols and the pad (R191, R192). -/
def packetSyms (a : NetAddr) (body : List Nibble) : List Nibble := addrField a ++ sep ++ body ++ pad

theorem cmdSyms_eq (p : Params) (a : NetAddr) (d : Device) (c : Action) :
    cmdSyms p a d c = packetSyms a (devField p d ++ actField p c) := by
  simp only [cmdSyms, packetSyms, List.append_assoc]

theorem endSyms_eq (p : Params) (a : NetAddr) : endSyms p a = packetSyms a (endField p) := rfl

theorem packetSyms_addr (a : NetAddr) (body : List Nibble) {k : Nat} (hk : k < 10) :
    (packetSyms a body)[k]? = (addrField a)[k]? := by
  have hlen : k < (addrField a).length := hk
  rw [packetSyms, List.append_assoc, List.append_assoc, List.getElem?_append_left hlen]

theorem packetSyms_sep (a : NetAddr) (body : List Nibble) : (packetSyms a body)[10]? = some (sym false) := rfl

theorem packetSyms_body (a : NetAddr) {body : List Nibble} {k : Nat} (hk : k < body.length) :
    (packetSyms a body)[11 + k]? = body[k]? := by
  have hstart : (packetSyms a body)[11 + k]? = (body ++ pad)[k]? := by
    rw [packetSyms, List.append_assoc, List.getElem?_append_right (Nat.le_add_right 11 k)]
    exact congrArg ((body ++ pad)[·]?) (Nat.add_sub_cancel_left 11 k)
  rw [hstart, List.getElem?_append_left hk]

theorem packetSyms_pad (a : NetAddr) {body : List Nibble} (h : body.length = 14) :
    (packetSyms a body)[25]? = some sil := by
  have hlen : (addrField a ++ sep ++ body).length = 25 := by rw [List.length_append, h]; rfl
  rw [packetSyms, List.getElem?_append_right hlen.le, hlen]; rfl

theorem cmdBody_length (p : Params) (d : Device) (c : Action) : (devField p d ++ actField p c).length = 14 := by
  cases c <;> rfl

theorem endField_length (p : Params) : (endField p).length = 14 := by
  simp [endField, List.length_flatMap]

/-! ## The symbols of a packet -/

theorem packetSyms_frame (a : NetAddr) {body : List Nibble} (h : body.length = 14) :
    (∀ i < 5, (packetSyms a body)[2 * i]? = some (sym (a.getLsbD (4 - i))) ∧
      (packetSyms a body)[2 * i + 1]? = some 0xE) ∧
    (packetSyms a body)[10]? = some 0x8 ∧ (packetSyms a body)[25]? = some 0x0 := by
  refine ⟨fun i hi => ?_, packetSyms_sep a body, packetSyms_pad a h⟩
  rw [packetSyms_addr a body (by omega), packetSyms_addr a body (by omega)]
  exact addrField_getElem? a hi

theorem cmdSyms_device (p : Params) (a : NetAddr) (d : Device) (c : Action) {k : Nat} (hk : k < 10) :
    (cmdSyms p a d c)[11 + k]? = (devField p d)[k]? := by
  have hlen : k < (devField p d).length := hk
  rw [cmdSyms_eq, packetSyms_body a (by rw [cmdBody_length]; omega), List.getElem?_append_left hlen]

theorem cmdSyms_action (p : Params) (a : NetAddr) (d : Device) (c : Action) {k : Nat} (hk : k < 4) :
    (cmdSyms p a d c)[21 + k]? = (actField p c)[k]? := by
  have hlen : (devField p d).length = 10 := rfl
  rw [cmdSyms_eq, Nat.add_assoc 11 10 k, packetSyms_body a (by rw [cmdBody_length]; omega),
    List.getElem?_append_right (by omega), hlen, Nat.add_sub_cancel_left]

theorem endSyms_tail (p : Params) (a : NetAddr) {k : Nat} (hk : k < 14) :
    (endSyms p a)[11 + k]? = (endField p)[k]? := by
  rw [endSyms_eq, packetSyms_body a (by rw [endField_length]; exact hk)]

theorem actField_eq (p : Params) (c : Action) : ∃ g h, (g, h) = (if c = .on then p.actOn else p.actOff) ∧
    actField p c = [sym g.first, sym g.second, sym h.first, sym h.second] := by
  cases c with
  | on => exact ⟨p.actOn.1, p.actOn.2, rfl, rfl⟩
  | off => exact ⟨p.actOff.1, p.actOff.2, rfl, rfl⟩

/-- Settles O51: a position lies in one part of the packet, and the part's own layout says what stands there. -/
theorem packetLayoutBySymbol : Obligations.PacketLayoutBySymbol := by
  intro p a d c
  refine ⟨cmdSyms_length p a d c, endSyms_length p a, ?_, fun q hq => ?_, ?_, fun q hq => ?_⟩
  · rintro syms (rfl | rfl)
    · rw [cmdSyms_eq]; exact packetSyms_frame a (cmdBody_length p d c)
    · rw [endSyms_eq]; exact packetSyms_frame a (endField_length p)
  · refine ⟨_, rfl, ?_⟩
    rw [show 12 + 2 * q = 11 + (2 * q + 1) by omega, cmdSyms_device p a d c (by omega),
      cmdSyms_device p a d c (by omega)]
    exact devField_getElem? p d hq
  · obtain ⟨g, h, hgh, hact⟩ := actField_eq p c
    have hpos (k : Nat) (hk : k < 4) := hact ▸ cmdSyms_action p a d c hk
    exact ⟨g, h, hgh, hpos 0 (by decide), hpos 1 (by decide), hpos 2 (by decide), hpos 3 (by decide)⟩
  · have hg : p.endTail.toList[q]? = some p.endTail[q] := by simp [hq]
    refine ⟨p.endTail[q], hg, ?_⟩
    rw [show 12 + 2 * q = 11 + (2 * q + 1) by omega, endSyms_tail p a (by omega), endSyms_tail p a (by omega)]
    simpa only [hg, Option.map_some] using endField_getElem? p q

/-! ## The packets of a frame -/

/-- Lists of one length, put one after another, are the slices of that length. -/
theorem take_drop_flatten {α : Type} {L : List (List α)} {m j : Nat} (hm : ∀ l ∈ L, l.length = m) (hj : j < L.length) :
    (L.flatten.drop (m * j)).take m = L[j] := by
  have hlens : L.map List.length = List.replicate L.length m := List.map_eq_replicate_iff.mpr hm
  have h := List.drop_take_succ_flatten_eq_getElem L j hj
  rw [hlens, List.take_replicate, List.take_replicate, List.sum_replicate_nat, List.sum_replicate_nat,
    Nat.min_eq_left hj, Nat.min_eq_left hj.le, List.drop_take, Nat.succ_mul, Nat.add_sub_cancel_left] at h
  rwa [Nat.mul_comm]

theorem cmdPacket_length (p : Params) (a : NetAddr) (d : Device) (c : Action) : (cmdPacket p a d c).length = 13 := by
  rw [cmdPacket, pack_length, cmdSyms_length]

theorem endPacket_length (p : Params) (a : NetAddr) : (endPacket p a).length = 13 := by
  rw [endPacket, pack_length, endSyms_length]

/-- Settles O54: the frame is 15 packets of 13 bytes, one after another. -/
theorem frameLayoutByPacket : Obligations.FrameLayoutByPacket := by
  intro p a d c
  refine ⟨buildFrame_length p a d c, fun j hj => ?_⟩
  have hpackets : ∀ l ∈ List.replicate cmdRepeat (cmdPacket p a d c) ++ List.replicate endRepeat (endPacket p a),
      l.length = 13 := by
    intro l hl
    obtain hl | hl := List.mem_append.mp hl <;> rw [List.eq_of_mem_replicate hl]
    · exact cmdPacket_length p a d c
    · exact endPacket_length p a
  rw [buildFrame_packets, take_drop_flatten hpackets hj]
  simp only [List.getElem_append, List.length_replicate, List.getElem_replicate, cmdRepeat, dite_eq_ite]

/-- Settles O47: each row returns the value of its pure function, at `cmdRepeat` 12 and `endRepeat` 3. -/
theorem codecRowsReturnTheirValues : Obligations.CodecRowsReturnTheirValues :=
  fun _ => ⟨rfl, rfl, rfl, fun _ _ _ => ⟨rfl, rfl, rfl⟩⟩

end Sys2Proof.Machine
end

section
/-! The register interface (R120 to R122): a write is one transaction, a read returns its byte to the caller, and nothing
else reads from the transceiver (R126). -/

namespace Sys2Proof.Machine

/-! ## Register writes -/

theorem exec_wrBurst {a : RegAddr} {bs : List Byte} (hbs : bs ≠ []) (s : State) :
    exec (.wrBurst a bs) s = runWrites [writeBytes s.params (a.setWidth 8) bs] s s id :=
  if_neg (by simpa using hbs)

/-- Settles O43: both rows issue a list of one write and finish with the record they started from. -/
theorem registerWriteIsOneTransaction : Obligations.RegisterWriteIsOneTransaction :=
  fun _ _ => ⟨fun _ => runWrites_inOrder rfl rfl fun _ h => h ▸ rfl,
    fun _ hbs => runWrites_inOrder (exec_wrBurst hbs _) rfl fun _ h => h ▸ rfl⟩

/-! ## Register reads -/

/-- Bit 7 of a 7-bit address is clear already (R90). -/
theorem readBytes_regAddr (a : RegAddr) : readBytes (a.setWidth 8) = [a.setWidth 8, 0x00] := by
  have hclear : ∀ a : RegAddr, a.setWidth 8 &&& (0x7F : Byte) = a.setWidth 8 := by decide
  rw [readBytes, hclear]

theorem exec_rd_ok {s : State} {b : Byte} {e : List Answer} (a : RegAddr) (h : s.env = .ok b :: e) :
    exec (.rd a) s = .next { s with
      env := e, trace := s.trace ++ [.txn [a.setWidth 8, 0x00] 1 (.ok [b])], unitOut := [b] } := by
  change execRd a s = _
  rw [execRd, h, readBytes_regAddr]; rfl

theorem exec_rd_fail {s : State} {k : Nat} {e : List Answer} (a : RegAddr) (h : s.env = .fail k :: e) (hk : k ≤ 2) :
    exec (.rd a) s = .next { s with
      env := e, trace := s.trace ++ [.txn [a.setWidth 8, 0x00] 1 (.fail k)], core := sessionLost s.core 1 } := by
  have hsent : outcomeOf 2 1 (.fail k) = .fail k := congrArg TxnOutcome.fail (Nat.min_eq_left hk)
  change execRd a s = _
  rw [execRd, h, readBytes_regAddr, ← hsent]
  exact congrArg Host.Outcome.next (raiseErr_transportFailure s _ rfl)

/-- Settles O44: one answer of the environment, a byte or a failure. -/
theorem registerReadReturnsTheReceivedByte : Obligations.RegisterReadReturnsTheReceivedByte :=
  fun _ a _ => ⟨fun _ h => exec_rd_ok a h, fun _ h hk => exec_rd_fail a h hk⟩

/-! ## Events that read nothing -/

/-- The trace grows from `s` to `t` by events that read nothing. -/
def AddsNoRead (s t : State) : Prop := ∃ es, t.trace = s.trace ++ es ∧ ∀ ev ∈ es, ev.reads = false

theorem AddsNoRead.of_trace_eq {s t : State} (h : t.trace = s.trace) : AddsNoRead s t :=
  ⟨[], by rw [h, List.append_nil], by simp⟩

@[simp] theorem raiseErr_trace (e : Err) (q : Seq) (s : State) : (raiseErr e q s).trace = s.trace := by
  unfold raiseErr; split <;> rfl

theorem okWrites_read_nothing (outs : List (List Byte)) : ∀ ev ∈ outs.map okWrite, ev.reads = false := by
  intro ev hev
  obtain ⟨out, -, rfl⟩ := List.mem_map.mp hev
  rfl

/-- Every transaction of a step's writes receives 0 bytes, whether it succeeds or fails. -/
theorem runWrites_addsNoRead {outs : List (List Byte)} {s s0 t : State} {finish : State → State}
    (h : runWrites outs s s0 finish = .next t) (h0 : s0.trace = s.trace) (hf : ∀ u, (finish u).trace = u.trace) :
    AddsNoRead s t := by
  rcases runWrites_cases outs s s0 finish with ⟨bs, e, -, -, hx⟩ | ⟨bs, o, r, k, e, -, -, hx⟩ | ⟨bs, -, -, hx⟩
  · rw [hx] at h; cases h
    exact ⟨_, by rw [hf, h0], okWrites_read_nothing outs⟩
  · rw [hx] at h; cases h
    refine ⟨_, by rw [raiseErr_trace, h0, List.append_assoc], fun ev hev => ?_⟩
    obtain hev | hev := List.mem_append.mp hev
    · exact okWrites_read_nothing _ ev hev
    · rw [List.mem_singleton.mp hev]; rfl
  · rw [hx] at h; cases h
    exact .of_trace_eq rfl

theorem requireSleep_addsNoRead {s t : State} {body : Out} (h : requireSleep s body = .next t)
    (hb : body = .next t → AddsNoRead s t) : AddsNoRead s t := by
  unfold requireSleep at h
  split at h
  · exact hb h
  · cases h; exact .of_trace_eq (raiseErr_trace _ _ s)

/-- C_RESET drives the line and waits; it starts no transaction (R150). -/
theorem execCReset_addsNoRead {s t : State} (h : execCReset s = .next t) : AddsNoRead s t := by
  cases h
  exact ⟨[.reset .deassert, .delay s.params.resetWaitMs, .reset .assert, .delay s.params.settleMs],
    by simp [advance], by simp [Event.reads]⟩

theorem execTPayload_addsNoRead {s t : State} (h : execTPayload s = .next t) : AddsNoRead s t := by
  unfold execTPayload at h
  split at h
  · cases h; exact .of_trace_eq rfl
  · exact runWrites_addsNoRead h rfl fun _ => rfl

theorem execTMode_addsNoRead {s t : State} (h : execTMode s = .next t) : AddsNoRead s t := by
  unfold execTMode at h
  split at h
  · cases h; exact .of_trace_eq rfl
  · exact runWrites_addsNoRead h rfl fun _ => rfl

theorem execTFifo_addsNoRead {s t : State} (h : execTFifo s = .next t) : AddsNoRead s t := by
  unfold execTFifo at h
  split at h
  · cases h
  · split at h
    · cases h
    · exact runWrites_addsNoRead h rfl fun _ => rfl

theorem execWrBurst_addsNoRead {a : RegAddr} {bs : List Byte} {s t : State} (h : execWrBurst a bs s = .next t) :
    AddsNoRead s t := by
  unfold execWrBurst at h
  split at h
  · cases h
  · exact runWrites_addsNoRead h rfl fun _ => rfl

/-- Every row but `Rd` adds only events that read nothing (R126). -/
theorem exec_addsNoRead {i : Instr} {s t : State} (hrd : ∀ a, i ≠ .rd a) (h : exec i s = .next t) : AddsNoRead s t := by
  cases i with
  | configure | transmit | buildFrameCmd | configureDefault | on | off | illegal =>
    exact .of_trace_eq (exec_commandEnd rfl h).trace_eq
  | cReset => exact execCReset_addsNoRead h
  | cSleep | cPower | cStandby | cPreamble | cPacket | cPayload | cShaping | wr =>
    exact runWrites_addsNoRead h rfl fun _ => rfl
  | cBitrate | cFreq => exact requireSleep_addsNoRead h fun h => runWrites_addsNoRead h rfl fun _ => rfl
  | tPayload => exact execTPayload_addsNoRead h
  | tMode => exact execTMode_addsNoRead h
  | tFifo => exact execTFifo_addsNoRead h
  | wrBurst => exact execWrBurst_addsNoRead h
  | rd a => exact absurd rfl (hrd a)
  | zero | one | silence | cmdPacket | endPacket | buildFrame => cases h; exact .of_trace_eq rfl

theorem exec_rd_ok_core {a : RegAddr} {s t : State} {b : Byte} {e : List Answer}
    (h : exec (.rd a) { s with env := .ok b :: e } = .next t) : t.core = s.core := by
  rw [exec_rd_ok a rfl] at h
  cases h; rfl

/-- Settles O45: only `Rd` reads, and it leaves the record alone whatever byte it receives. -/
theorem coreNeverReadsTheTransceiver : Obligations.CoreNeverReadsTheTransceiver :=
  ⟨fun _ _ _ => exec_addsNoRead, fun _ _ _ _ _ _ _ h h' =>
    ⟨(exec_rd_ok_core h).trans (exec_rd_ok_core h').symm, exec_rd_ok_core h⟩⟩

end Sys2Proof.Machine
end

section
/-! The functions the configure steps compute: the rounded frequency word (R142), the bitrate divisor (R145) and the power
encoding (R144). -/

namespace Sys2Proof.Machine

/-! ## Rounding -/

/-- A rounded quotient is within a half of the exact one, a tie going up (R10). -/
theorem roundHalfUp_bounds (n : Nat) {d : Nat} (hd : 0 < d) :
    2 * roundHalfUp n d * d ≤ 2 * n + d ∧ 2 * n + d < 2 * (roundHalfUp n d + 1) * d := by
  have hswap (q : Nat) : 2 * q * d = 2 * d * q := Nat.mul_right_comm 2 q d
  rw [hswap, hswap]
  exact ⟨Nat.mul_div_le _ _, Nat.lt_mul_div_succ _ (by omega)⟩

theorem frfWord_eq_roundHalfUp (hz : Nat) : frfWord hz = roundHalfUp (hz * 2 ^ 19) 32000000 := by
  unfold frfWord roundHalfUp; omega

/-- Settles O57: the word is a rounded quotient. -/
theorem frequencyWordRoundsTheQuotient : Obligations.FrequencyWordRoundsTheQuotient := by
  refine ⟨fun hz => ⟨frfWord_eq hz, frfWord_eq_roundHalfUp hz, ?_⟩, by decide, by decide⟩
  rw [frfWord_eq_roundHalfUp]
  exact roundHalfUp_bounds _ (by decide)

/-- Settles O59, by computing the quotient. -/
theorem bitrateDivisorIsTheRoundedQuotient : Obligations.BitrateDivisorIsTheRoundedQuotient := by
  unfold Obligations.BitrateDivisorIsTheRoundedQuotient
  decide

/-! ## The power encoding -/

theorem paConfigOf_offset : ∀ k < 16, paConfigOf (5 + (k : Nat)) = BitVec.ofNat 8 (0x80 + k) := by decide

/-- The normal path: the configuration byte counts from 5 dBm. -/
theorem powerEncode_normal (p : Params) {req : Int} {k : Nat} (hk : k < 16) (h : pclamp req = 5 + k) :
    powerEncode p req = (p.paDacNormal, BitVec.ofNat 8 (0x80 + k)) := by
  have hlow : ¬ hpThreshold < pclamp req := by unfold hpThreshold; omega
  rw [powerEncode, if_neg hlow, h, paConfigOf_offset k hk]

/-- The high path: the configuration byte counts from 5 dBm after the offset of 3. -/
theorem powerEncode_high (p : Params) {req : Int} {k : Nat} (hk : k < 3) (h : pclamp req = 21 + k) :
    powerEncode p req = (p.paDacHigh, BitVec.ofNat 8 (0x8D + k)) := by
  have hhigh : hpThreshold < pclamp req := by unfold hpThreshold; omega
  have hoffset : pclamp req - hpOffset = 5 + (13 + k : Nat) := by unfold hpOffset; omega
  rw [powerEncode, if_pos hhigh, hoffset, paConfigOf_offset (13 + k) (by omega), ← Nat.add_assoc]

/-- Settles O58: each range is told by the clamped power. -/
theorem powerEncodingByRange : Obligations.PowerEncodingByRange := by
  intro p req
  have hclamp : pclamp req = min (max req 5) 23 := rfl
  refine ⟨fun h => ?_, fun k hk h => ?_, fun k hk h => ?_, fun h => ?_⟩
  · exact powerEncode_normal p (k := 0) (by decide) (by omega)
  · exact powerEncode_normal p hk (by omega)
  · exact powerEncode_high p hk (by omega)
  · exact powerEncode_high p (k := 2) (by decide) (by omega)

end Sys2Proof.Machine
end

section
/-! CONFIGURE's acceptance (R140, R141): its three forms, and the frequencies that are valid. -/

namespace Sys2Proof.Machine

/-- The check of R141 on the word of R142. -/
theorem freqValid_iff_word (f : BitVec 32) :
    freqValid f = true ↔ (f.toNat * 16384 + 500000) / 1000000 ≤ 0xFFFFFF := by
  rw [freqValid, decide_eq_true_iff, frfWord_eq]

theorem exec_configure_valid {s : State} {f : BitVec 32} (p : BitVec 8) (h : idle s.core) (hf : freqValid f = true) :
    exec (.configure false p f) s = .next { s with core := { accepted s.core with
      cur := .configure, freqHz := f, powerReq := p, shadowMode := .unknown, plenCache := none, txModeSet := false,
      seq := .cReset } } :=
  (accept_configure h f p).trans (if_pos hf)

theorem exec_configure_invalid {s : State} {f : BitVec 32} (p : BitVec 8) (h : idle s.core) (hf : ¬ freqValid f = true) :
    exec (.configure false p f) s = .next { s with core := refusedWith s.core 2 } :=
  (accept_configure h f p).trans (if_neg hf)

/-- CONFIGURE with D set and CONFIGURE.DEFAULT are a CONFIGURE of the default operands (R84, R88). -/
theorem exec_configure_forms {i : Instr} {f : BitVec 32} {p : BitVec 8}
    (h : i = .configure false p f ∨
      ((∃ p' f', i = .configure true p' f') ∨ i = .configureDefault) ∧ f = 433790000 ∧ p = 5)
    (s : State) : exec i s = exec (.configure false p f) s := by
  obtain rfl | ⟨⟨p', f', rfl⟩ | rfl, rfl, rfl⟩ := h <;> rfl

/-- Settles O18: the three forms have one meaning, and acceptance checks the word. -/
theorem configureStartsTheSequence : Obligations.ConfigureStartsTheSequence := by
  intro s i f p hi
  rw [exec_configure_forms hi s]
  refine ⟨fun hidle hword => ⟨.configure, ?_⟩, fun hidle hword => ?_⟩
  · exact exec_configure_valid p hidle ((freqValid_iff_word f).mpr hword)
  · exact exec_configure_invalid p hidle fun hf => hword.not_ge ((freqValid_iff_word f).mp hf)

/-- Settles O19: the bound of R141 decides which answer acceptance gives. -/
theorem frequencyRangeIsChecked : Obligations.FrequencyRangeIsChecked := by
  refine fun f => ⟨freqValid_iff f, fun s p hidle => ⟨fun hle => ?_, fun hgt => ?_⟩⟩
  · exact ⟨_, exec_configure_valid p hidle ((freqValid_iff f).mpr hle), rfl, rfl⟩
  · exact exec_configure_invalid p hidle fun hf => hgt.not_ge ((freqValid_iff f).mp hf)

end Sys2Proof.Machine
end

section
/-! The ten configure steps one by one (R150 to R159): the reset pulse, the mode check of steps 3 and 4, and the writes. -/

namespace Sys2Proof.Machine

/-- Settles O26: C_RESET appends its four events one by one. -/
theorem resetStepPulsesTheLine : Obligations.ResetStepPulsesTheLine := by
  refine fun s => ⟨?_, rfl, rfl⟩
  change execCReset s = _
  simp [execCReset, advance, State.emit, State.withCore, Core.setSeq]

/-! ## The mode check of steps 3 and 4 (R146) -/

theorem requireSleep_of_sleep {s : State} (h : s.core.shadowMode = .sleep) (body : Out) : requireSleep s body = body :=
  if_pos h

theorem requireSleep_of_not_sleep {s : State} (h : s.core.shadowMode ≠ .sleep) (body : Out) :
    requireSleep s body = .next { s with core := sessionLost s.core 5 } := by
  rw [requireSleep, if_neg h, raiseErr_execution rfl]; rfl

/-- The invariant has mode SLEEP from the write of step 2 to that of step 6. -/
theorem Inv.sleep {s : State} (h : Inv s) (hq : s.core.seq = .cBitrate ∨ s.core.seq = .cFreq) :
    s.core.shadowMode = .sleep := by
  have hsession := h.session
  obtain hq | hq := hq <;> rw [sessionOk, hq] at hsession <;> exact hsession.1

/-- Settles O36: both steps check the mode first, and the session of the invariant has it. -/
theorem modePreconditionIsCheckedAndNeverFires : Obligations.ModePreconditionIsCheckedAndNeverFires := by
  refine ⟨fun s i hi hm => ?_, fun _ => Inv.sleep⟩
  obtain rfl | rfl := hi <;> exact requireSleep_of_not_sleep hm _

/-! ## The writes of each step -/

theorem advance_eq {t : State} {c : Core} (q : Seq) (h : t.core = c) :
    advance q t = { t with core := { c with seq := q } } :=
  h ▸ rfl

theorem advanceMode_eq {t : State} {c : Core} (m : ShadowMode) (q : Seq) (h : t.core = c) :
    advanceMode m q t = { t with core := { c with shadowMode := m, seq := q } } :=
  h ▸ rfl

/-- Settles O27: the step is one write, after which the mode is recorded. -/
theorem sleepStepWritesTheMode : Obligations.SleepStepWritesTheMode :=
  fun _ => runWrites_inOrder rfl rfl fun _ => advanceMode_eq _ _

/-- Settles O28: the two bytes of 0x12C0, under the mode check. -/
theorem bitrateStepWritesTheDivisor : Obligations.BitrateStepWritesTheDivisor :=
  fun _ => ⟨fun hm => runWrites_inOrder (requireSleep_of_sleep hm _) rfl fun _ => advance_eq _,
    fun hm => requireSleep_of_not_sleep hm _⟩

theorem frfOf_eq {f : BitVec 32} {w : BitVec 24} (h : w.toNat = (f.toNat * 16384 + 500000) / 1000000) :
    frfOf f = w := by
  rw [frfOf, frfWord_eq, ← h, BitVec.ofNat_toNat, BitVec.setWidth_eq]

/-- Settles O29: a word that fits is the one the step computes. -/
theorem frequencyStepWritesTheWord : Obligations.FrequencyStepWritesTheWord := by
  refine fun s w hw => ⟨fun hm => ?_, fun hm => requireSleep_of_not_sleep hm _⟩
  rw [← frfOf_eq hw]
  exact runWrites_inOrder (requireSleep_of_sleep hm _) rfl fun _ => advance_eq _

/-- Settles O30: the two values are those the step computes. -/
theorem powerStepWritesBothValues : Obligations.PowerStepWritesBothValues := by
  intro s dac cfg he
  obtain ⟨rfl, rfl⟩ := Prod.mk.inj he
  exact runWrites_inOrder rfl rfl fun _ => advance_eq _

/-- Settles O31, as step 2 with the other mode. -/
theorem standbyStepWritesTheMode : Obligations.StandbyStepWritesTheMode :=
  fun _ => runWrites_inOrder rfl rfl fun _ => advanceMode_eq _ _

/-- Settles O32: two writes, then only the sequencer moves. -/
theorem preambleStepWritesZeros : Obligations.PreambleStepWritesZeros :=
  fun _ => runWrites_inOrder rfl rfl fun _ => advance_eq _

/-- The field constraints of R157 and R159 on a record. -/
theorem valuesWf_iff (p : Params) : valuesWf p = true ↔
    (p.valSyncConfig.getLsbD 4 = false ∧ p.valPacketConfig1.getLsbD 7 = false ∧
      p.valPacketConfig1.extractLsb' 5 2 = 0 ∧ p.valPacketConfig1.getLsbD 4 = false ∧
      p.valPacketConfig1.extractLsb' 1 2 = 0 ∧ p.valPacketConfig2.getLsbD 6 = true ∧
      p.valPacketConfig2.getLsbD 5 = false ∧ p.valPacketConfig2.extractLsb' 0 3 = 0) ∧
    p.valPaRamp.extractLsb' 5 2 = 1 := by
  simp only [valuesWf, Bool.and_eq_true, Bool.not_eq_true', beq_iff_eq, and_assoc]

theorem valuesWf_of_paramsWf {p : Params} (h : paramsWf p = true) : valuesWf p = true := by
  obtain ⟨-, -, -, hvalues, -⟩ := (paramsWf_iff p).mp h
  exact hvalues

/-- Settles O33: the check of a record includes R157's constraints. -/
theorem packetStepWritesTheThreeValues : Obligations.PacketStepWritesTheThreeValues :=
  ⟨fun _ => runWrites_inOrder rfl rfl fun _ => advance_eq _,
    fun p hp => ((valuesWf_iff p).mp (valuesWf_of_paramsWf hp)).1, rfl, rfl, rfl⟩

/-- Settles O34: `payloadLen` is 195. -/
theorem payloadStepWritesTheLength : Obligations.PayloadStepWritesTheLength :=
  fun _ => runWrites_inOrder rfl rfl fun _ h => h ▸ rfl

/-- Settles O35: the check of a record includes R159's constraint. -/
theorem shapingStepEndsTheConfiguration : Obligations.ShapingStepEndsTheConfiguration :=
  ⟨fun _ => runWrites_inOrder rfl rfl fun _ => advance_eq _,
    fun p hp => ((valuesWf_iff p).mp (valuesWf_of_paramsWf hp)).2, rfl, rfl, rfl⟩

end Sys2Proof.Machine
end

section
/-! A whole CONFIGURE (R160): runs of steps that issue writes, one after another, and the configure steps as one such run. -/

namespace Sys2Proof

/-- The fields a CONFIGURE word is put together from are those read back (R82). -/
theorem decodeCmd_encodeConfigure (d : Bool) (pwr : BitVec 8) (freq : BitVec 32) :
    decodeCmd (encodeConfigure d pwr freq) = .configure d pwr freq := by
  have hword : (encodeConfigure d pwr freq).extractLsb' 0 (8 + 15 + 1 + 8 + 32) =
      0x01#8 ++ 0#15 ++ BitVec.ofBool d ++ pwr ++ freq := BitVec.extractLsb'_eq_self
  simp only [extractLsb'_eq_append_iff, ← ofBool_getLsbD_eq_extractLsb'] at hword
  obtain ⟨⟨⟨⟨hopc, hzero⟩, hbit⟩, hpwr⟩, hfreq⟩ := hword
  have hdecode := decodeCmd_of_configure (w := encodeConfigure d pwr freq) ⟨hopc, hzero⟩
  rwa [BitVec.ofBool_eq_iff_eq.mp hbit, hpwr, hfreq] at hdecode

end Sys2Proof

namespace Sys2Proof.Machine

/-! ## Runs of steps that issue writes -/

theorem allOk_append (bs bs' : List Byte) : allOk (bs ++ bs') = allOk bs ++ allOk bs' := List.map_append

/-- From the state with record `c`, over any trace, `k` steps answered `Ok` issue exactly these writes in this order; the
record is then `c'` and nothing else is changed. -/
def WritesRun (s : State) (k : Nat) (c : Core) (outs : List (List Byte)) (c' : Core) : Prop :=
  ∀ (tr : List Event) (bs : List Byte) (e : List Answer), bs.length = outs.length →
    Host.Core.run Sys2Proof.core k { s with core := c, trace := tr, env := allOk bs ++ e } =
      .next { s with core := c', trace := tr ++ outs.map okWrite, env := e }

/-- A sequencer step that issues its writes in order. -/
theorem WritesRun.of_step {s : State} {c c' : Core} {i : Instr} {outs : List (List Byte)}
    (hlive : live { s with core := c }) (hu : s.unit = none) (hi : decodeStep (seqCode c.seq) = .instr i)
    (hw : ∀ tr env, ∃ started, WritesInOrder i { s with core := c, trace := tr, env := env } outs started c') :
    WritesRun s 1 c outs c' := by
  intro tr bs e hl
  obtain ⟨_, hok, -⟩ := hw tr (allOk bs ++ e)
  have hstep : step { s with core := c, trace := tr, env := allOk bs ++ e } = exec i _ := step_of_seq hlive hu hi
  exact run_succ_next 0 (hstep.trans (hok bs e hl rfl))

theorem WritesRun.trans {s : State} {j k : Nat} {c₀ c₁ c₂ : Core} {outs outs' : List (List Byte)}
    (h : WritesRun s j c₀ outs c₁) (h' : WritesRun s k c₁ outs' c₂) : WritesRun s (j + k) c₀ (outs ++ outs') c₂ := by
  intro tr bs e hl
  rw [List.length_append] at hl
  have hsplit : allOk bs ++ e = allOk (bs.take outs.length) ++ (allOk (bs.drop outs.length) ++ e) := by
    rw [← List.append_assoc, ← allOk_append, List.take_append_drop]
  rw [hsplit, run_add_next j k (h tr _ _ (by rw [List.length_take]; omega)),
    h' _ _ _ (by rw [List.length_drop]; omega), List.map_append, List.append_assoc]

/-! ## The configure steps as one run -/

/-- The 16 register writes of R160, addresses and values, for a frequency word and a power encoding. -/
def configureWrites (p : Params) (w : BitVec 24) (dac cfg : Byte) : List (Byte × Byte) :=
  [(p.regOpmode, p.modeSleep), (p.regBitrateMsb, 0x12), (p.regBitrateLsb, 0xC0),
   (p.regFrfMsb, w.extractLsb' 16 8), (p.regFrfMid, w.extractLsb' 8 8), (p.regFrfLsb, w.extractLsb' 0 8),
   (p.regPaDac, dac), (p.regPaConfig, cfg), (p.regOpmode, p.modeStandby),
   (p.regPreambleMsb, 0x00), (p.regPreambleLsb, 0x00), (p.regSyncConfig, p.valSyncConfig),
   (p.regPacketConfig1, p.valPacketConfig1), (p.regPacketConfig2, p.valPacketConfig2),
   (p.regPayloadLength, 195), (p.regPaRamp, p.valPaRamp)]

/-- The transactions of a list of register writes (R90). -/
def writeTxns (p : Params) (avs : List (Byte × Byte)) : List (List Byte) := avs.map fun av => [av.1 ||| p.writeBit, av.2]

section
variable {s : State} {c : Core}

/-- Steps 2 to 5, in mode SLEEP. -/
theorem sleepSteps_writesRun {w : BitVec 24} {dac cfg : Byte} (hlive : live { s with core := c }) (hu : s.unit = none)
    (hw : w.toNat = (c.freqHz.toNat * 16384 + 500000) / 1000000)
    (hpow : powerEncode s.params c.powerReq.toInt = (dac, cfg)) :
    WritesRun s 4 { c with seq := .cSleep }
      (writeTxns s.params [(s.params.regOpmode, s.params.modeSleep), (s.params.regBitrateMsb, 0x12),
        (s.params.regBitrateLsb, 0xC0), (s.params.regFrfMsb, w.extractLsb' 16 8), (s.params.regFrfMid, w.extractLsb' 8 8),
        (s.params.regFrfLsb, w.extractLsb' 0 8), (s.params.regPaDac, dac), (s.params.regPaConfig, cfg)])
      { c with seq := .cStandby, frf := w, paDac := dac, paConfig := cfg, shadowMode := .sleep } := by
  have hfreq (t : State) (hf : t.core.freqHz = c.freqHz) := (frequencyStepWritesTheWord t w (hf ▸ hw)).1
  have sleep : WritesRun s 1 { c with seq := .cSleep }
      (writeTxns s.params [(s.params.regOpmode, s.params.modeSleep)])
      { c with seq := .cBitrate, shadowMode := .sleep } :=
    .of_step hlive hu rfl fun _ _ => ⟨_, sleepStepWritesTheMode _⟩
  have bitrate : WritesRun s 1 { c with seq := .cBitrate, shadowMode := .sleep }
      (writeTxns s.params [(s.params.regBitrateMsb, 0x12), (s.params.regBitrateLsb, 0xC0)])
      { c with seq := .cFreq, shadowMode := .sleep } :=
    .of_step hlive hu rfl fun _ _ => ⟨_, (bitrateStepWritesTheDivisor _).1 rfl⟩
  have freq : WritesRun s 1 { c with seq := .cFreq, shadowMode := .sleep }
      (writeTxns s.params [(s.params.regFrfMsb, w.extractLsb' 16 8), (s.params.regFrfMid, w.extractLsb' 8 8),
        (s.params.regFrfLsb, w.extractLsb' 0 8)])
      { c with seq := .cPower, frf := w, shadowMode := .sleep } :=
    .of_step hlive hu rfl fun _ _ => ⟨_, hfreq _ rfl rfl⟩
  have power : WritesRun s 1 { c with seq := .cPower, frf := w, shadowMode := .sleep }
      (writeTxns s.params [(s.params.regPaDac, dac), (s.params.regPaConfig, cfg)])
      { c with seq := .cStandby, frf := w, paDac := dac, paConfig := cfg, shadowMode := .sleep } :=
    .of_step hlive hu rfl fun _ _ => ⟨_, powerStepWritesBothValues _ dac cfg hpow⟩
  exact ((sleep.trans bitrate).trans freq).trans power

/-- Steps 6 to 10, in mode STANDBY. -/
theorem standbySteps_writesRun (hlive : live { s with core := c }) (hu : s.unit = none) :
    WritesRun s 5 { c with seq := .cStandby }
      (writeTxns s.params [(s.params.regOpmode, s.params.modeStandby), (s.params.regPreambleMsb, 0x00),
        (s.params.regPreambleLsb, 0x00), (s.params.regSyncConfig, s.params.valSyncConfig),
        (s.params.regPacketConfig1, s.params.valPacketConfig1), (s.params.regPacketConfig2, s.params.valPacketConfig2),
        (s.params.regPayloadLength, 195), (s.params.regPaRamp, s.params.valPaRamp)])
      { c with seq := .idleReady, shadowMode := .standby, plenCache := some 195 } := by
  obtain ⟨hpacket, -⟩ := packetStepWritesTheThreeValues
  obtain ⟨hshaping, -⟩ := shapingStepEndsTheConfiguration
  have standby : WritesRun s 1 { c with seq := .cStandby }
      (writeTxns s.params [(s.params.regOpmode, s.params.modeStandby)])
      { c with seq := .cPreamble, shadowMode := .standby } :=
    .of_step hlive hu rfl fun _ _ => ⟨_, standbyStepWritesTheMode _⟩
  have preamble : WritesRun s 1 { c with seq := .cPreamble, shadowMode := .standby }
      (writeTxns s.params [(s.params.regPreambleMsb, 0x00), (s.params.regPreambleLsb, 0x00)])
      { c with seq := .cPacket, shadowMode := .standby } :=
    .of_step hlive hu rfl fun _ _ => ⟨_, preambleStepWritesZeros _⟩
  have packet : WritesRun s 1 { c with seq := .cPacket, shadowMode := .standby }
      (writeTxns s.params [(s.params.regSyncConfig, s.params.valSyncConfig),
        (s.params.regPacketConfig1, s.params.valPacketConfig1), (s.params.regPacketConfig2, s.params.valPacketConfig2)])
      { c with seq := .cPayload, shadowMode := .standby } :=
    .of_step hlive hu rfl fun _ _ => ⟨_, hpacket _⟩
  have payload : WritesRun s 1 { c with seq := .cPayload, shadowMode := .standby }
      (writeTxns s.params [(s.params.regPayloadLength, 195)])
      { c with seq := .cShaping, shadowMode := .standby, plenCache := some 195 } :=
    .of_step hlive hu rfl fun _ _ => ⟨_, payloadStepWritesTheLength _⟩
  have shaping : WritesRun s 1 { c with seq := .cShaping, shadowMode := .standby, plenCache := some 195 }
      (writeTxns s.params [(s.params.regPaRamp, s.params.valPaRamp)])
      { c with seq := .idleReady, shadowMode := .standby, plenCache := some 195 } :=
    .of_step hlive hu rfl fun _ _ => ⟨_, hshaping _⟩
  exact (((standby.trans preamble).trans packet).trans payload).trans shaping

/-- Steps 2 to 10 issue the 16 writes. -/
theorem configureSteps_writesRun {w : BitVec 24} {dac cfg : Byte} (hlive : live { s with core := c }) (hu : s.unit = none)
    (hw : w.toNat = (c.freqHz.toNat * 16384 + 500000) / 1000000)
    (hpow : powerEncode s.params c.powerReq.toInt = (dac, cfg)) :
    WritesRun s 9 { c with seq := .cSleep } (writeTxns s.params (configureWrites s.params w dac cfg))
      { c with seq := .idleReady, frf := w, paDac := dac, paConfig := cfg, shadowMode := .standby,
               plenCache := some 195 } :=
  WritesRun.trans (j := 4) (k := 5) (sleepSteps_writesRun hlive hu hw hpow)
    (standbySteps_writesRun (c := { c with frf := w, paDac := dac, paConfig := cfg, shadowMode := .sleep }) hlive hu)

end

/-- Steps 1 to 10: the reset pulse, then the 16 writes. -/
theorem run_configureSteps {s : State} {w : BitVec 24} {dac cfg : Byte} {bs : List Byte} {e : List Answer}
    (hlive : live s) (hu : s.unit = none) (hq : s.core.seq = .cReset) (hl : bs.length = 16) (henv : s.env = allOk bs ++ e)
    (hw : w.toNat = (s.core.freqHz.toNat * 16384 + 500000) / 1000000)
    (hpow : powerEncode s.params s.core.powerReq.toInt = (dac, cfg)) :
    Host.Core.run Sys2Proof.core 10 s = .next { s with
      core := { s.core with
        seq := .idleReady, frf := w, paDac := dac, paConfig := cfg, shadowMode := .standby, plenCache := some 195 }
      trace := s.trace ++
        [.reset .deassert, .delay s.params.resetWaitMs, .reset .assert, .delay s.params.settleMs] ++
        (writeTxns s.params (configureWrites s.params w dac cfg)).map okWrite
      env := e } := by
  have hpulse : step s = exec .cReset s := step_of_seq hlive hu (by rw [hq]; rfl)
  have hwrites := configureSteps_writesRun hlive hu hw hpow
    (s.trace ++ [.reset .deassert, .delay s.params.resetWaitMs, .reset .assert, .delay s.params.settleMs]) bs e hl
  rw [← henv] at hwrites
  exact (run_succ_next 9 (hpulse.trans (resetStepPulsesTheLine s).1)).trans hwrites

/-- An idle core that is presented a CONFIGURE word with a valid frequency takes it. -/
theorem step_configureWord {s : State} {d : Bool} {pwr : BitVec 8} {freq : BitVec 32} {ws : List CmdWord}
    (hlive : live s) (hu : s.unit = none) (hidle : idle s.core) (hhost : s.host = encodeConfigure d pwr freq :: ws)
    (hvalid : freqValid (freqOperand d freq) = true) :
    step s = .next { s with host := ws, core := { accepted s.core with
      cur := .configure, freqHz := freqOperand d freq, powerReq := powerOperand d pwr, shadowMode := .unknown,
      plenCache := none, txModeSet := false, seq := .cReset } } := by
  rw [step_of_host hlive hu hidle hhost, decodeCmd_encodeConfigure]
  exact exec_configure_valid (s := { s with host := ws }) (powerOperand d pwr) hidle hvalid

/-- Settles O38: the word is taken, then the ten steps run. -/
theorem configureIssuesTheSixteenWrites : Obligations.ConfigureIssuesTheSixteenWrites := by
  obtain ⟨-, -, hdefault⟩ := frequencyWordRoundsTheQuotient
  refine ⟨?_, hdefault, (powerEncodingByRange defaultParams 5).1 (by decide), rfl⟩
  intro s d pwr freq ws bs e w dac cfg hlive hu hidle hhost hl henv hw hpow
  have hfreq : (if d then 433790000 else freq.toNat) = (freqOperand d freq).toNat := by cases d <;> rfl
  have hpower : (if d then 5 else pwr.toInt) = (powerOperand d pwr).toInt := by cases d <;> rfl
  rw [hfreq] at hw
  rw [hpower] at hpow
  have hvalid : freqValid (freqOperand d freq) = true := (freqValid_iff_word _).mpr (by have := w.isLt; omega)
  have htaken := step_configureWord (pwr := pwr) hlive hu hidle hhost hvalid
  obtain ⟨hwf, hreset, -⟩ := hlive
  have hrun := (run_succ_next 10 htaken).trans
    (run_configureSteps ⟨hwf, hreset, rfl⟩ hu rfl hl henv hw hpow)
  exact ⟨_, hrun, rfl, rfl, rfl, rfl, rfl⟩

end Sys2Proof.Machine
end

section
/-! The line code read back: the groups of a field, the pairs of the packer and the chips of a packet (R183, R186, R188,
R193, R195). -/

namespace Sys2Proof.Machine

/-! ## The packer -/

/-- Byte j is made of symbols 2j and 2j + 1 (R193). -/
theorem pack_getElem? : ∀ (ns : List Nibble) (j : Nat) {hi lo : Nibble}, ns[2 * j]? = some hi →
    ns[2 * j + 1]? = some lo → (pack ns)[j]? = some (packByte hi lo)
  | [], _, _, _, h, _ => by simp at h
  | [_], _, _, _, _, h => by simp at h
  | _ :: _ :: _, 0, _, _, h, h' => by cases h; cases h'; rfl
  | _ :: _ :: ns, j + 1, _, _, h, h' => pack_getElem? ns j h h'

/-- Settles O52: the length halves, and the packer takes the symbols in pairs. -/
theorem packPairsSymbols : Obligations.PackPairsSymbols := by
  intro m ns hlen
  refine ⟨by rw [pack_length, hlen, Nat.mul_div_cancel_left m Nat.two_pos], fun j hj => ?_⟩
  have hhi : ns[2 * j]? = some ns[2 * j] := List.getElem?_eq_getElem (by omega)
  have hlo : ns[2 * j + 1]? = some ns[2 * j + 1] := List.getElem?_eq_getElem (by omega)
  exact ⟨_, _, hhi, hlo, pack_getElem? ns j hhi hlo⟩

/-! ## The groups of the device field -/

theorem grp_injective {g g' : Group} (h : grp g = grp g') : g = g' := by
  obtain ⟨hfirst, hsecond⟩ : sym g.first = sym g'.first ∧ sym g.second = sym g'.second := by simpa [grp] using h
  cases g; cases g'
  exact congrArg₂ Group.mk (sym_injective hfirst) (sym_injective hsecond)

theorem devPos_lt (d : Device) : devPos d < 5 := by cases d <;> decide

/-- The five groups of a device field are its slices of two symbols (R185). -/
theorem devField_group (p : Params) (d : Device) {q : Nat} (hq : q < 5) :
    ((devField p d).drop (2 * q)).take 2 = grp (if q = devPos d then p.groupSel else p.groupFill) := by
  have hpairs : ∀ l ∈ (List.range 5).map fun q => grp (if q = devPos d then p.groupSel else p.groupFill),
      l.length = 2 := by
    intro l hl
    obtain ⟨q, -, rfl⟩ := List.mem_map.mp hl
    exact grp_length _
  rw [devField, List.flatMap_def, take_drop_flatten hpairs (by simpa using hq), List.getElem_map,
    List.getElem_range]

theorem devField_group_eq_fill_iff {p : Params} (hp : p.groupSel ≠ p.groupFill) (d : Device) {q : Nat} (hq : q < 5) :
    ((devField p d).drop (2 * q)).take 2 = grp p.groupFill ↔ q ≠ devPos d := by
  rw [devField_group p d hq]
  split
  case isTrue h => exact iff_of_false (fun e => hp (grp_injective e)) (not_not_intro h)
  case isFalse h => exact iff_of_true rfl h

/-- Settles O49: the position of the group that is not the filler names the device. -/
theorem deviceFieldSelectsOneGroup : Obligations.DeviceFieldSelectsOneGroup := by
  intro p hp
  refine ⟨fun d d' h => devPos_injective ?_, fun d q hq => devField_group_eq_fill_iff hp d hq⟩
  have hsel := devField_group_eq_fill_iff hp d (devPos_lt d)
  rw [h, devField_group_eq_fill_iff hp d' (devPos_lt d)] at hsel
  exact not_not.mp fun hne => hsel.mp hne rfl

/-! ## Chips -/

/-- The four chips of a symbol in time order: chip j is bit 3 - j (R64). -/
def symChips (n : Nibble) : List Bool := [n.getLsbD 3, n.getLsbD 2, n.getLsbD 1, n.getLsbD 0]

@[simp] theorem symChips_length (n : Nibble) : (symChips n).length = 4 := rfl

theorem chipsOfByte_packByte : ∀ hi lo : Nibble, chipsOfByte (packByte hi lo) = symChips hi ++ symChips lo := by
  decide

/-- Packing keeps the chips of an even number of symbols. -/
theorem chips_pack : ∀ (m : Nat) {ns : List Nibble}, ns.length = 2 * m → chips (pack ns) = ns.flatMap symChips
  | 0, [], _ => rfl
  | m + 1, hi :: lo :: ns, h => by
    have ih : chips (pack ns) = ns.flatMap symChips := chips_pack m (by simpa [Nat.mul_succ] using h)
    calc chips (pack (hi :: lo :: ns))
        = chipsOfByte (packByte hi lo) ++ chips (pack ns) := rfl
      _ = symChips hi ++ (symChips lo ++ ns.flatMap symChips) := by
          rw [chipsOfByte_packByte, ih, List.append_assoc]

/-- Chip 4n + j is bit 3 - j of symbol n. -/
theorem flatMap_symChips_getElem? {j : Nat} (hj : j < 4) : ∀ (ns : List Nibble) (n : Nat),
    (ns.flatMap symChips)[4 * n + j]? = ns[n]?.map (·.getLsbD (3 - j))
  | [], _ => by simp
  | _ :: _, 0 => by interval_cases j <;> rfl
  | x :: ns, n + 1 => by
    rw [List.flatMap_cons, List.getElem?_append_right (by simp; omega), symChips_length,
      show 4 * (n + 1) + j - 4 = 4 * n + j by omega, flatMap_symChips_getElem? hj ns n, List.getElem?_cons_succ]

/-! ## The data symbols of a packet -/

/-- A data symbol starts with a 1 (R180). -/
theorem sym_starts_high (b : Bool) : (sym b).getLsbD 3 = true := by cases b <;> rfl

theorem groups_start_high {α : Type} {l : List α} {f : α → Group} : ∀ n ∈ l.flatMap fun x => grp (f x),
    n.getLsbD 3 = true := by
  intro n hn
  obtain ⟨x, -, hx⟩ := List.mem_flatMap.mp hn
  obtain rfl | rfl : n = sym (f x).first ∨ n = sym (f x).second := by simpa [grp] using hx
  · exact sym_starts_high _
  · exact sym_starts_high _

/-- The address field consists of groups too: an address bit and its companion. -/
theorem addrField_starts_high (a : NetAddr) : ∀ n ∈ addrField a, n.getLsbD 3 = true :=
  groups_start_high (f := fun i => ⟨a.getLsbD (4 - i), true⟩)

theorem actField_starts_high (p : Params) (c : Action) : ∀ n ∈ actField p c, n.getLsbD 3 = true := by
  obtain ⟨g, h, -, hact⟩ := actField_eq p c
  rw [hact]
  exact groups_start_high (l := [g, h]) (f := id)

theorem cmdBody_starts_high (p : Params) (d : Device) (c : Action) :
    ∀ n ∈ devField p d ++ actField p c, n.getLsbD 3 = true :=
  List.forall_mem_append.mpr ⟨groups_start_high, actField_starts_high p c⟩

theorem packetSyms_length (a : NetAddr) {body : List Nibble} (h : body.length = 14) :
    (packetSyms a body).length = 26 := by
  have haddr : (addrField a).length = 10 := rfl
  simp [packetSyms, haddr, h, sep, pad]

/-- All symbols of a packet before its pad are data symbols (R191, R192). -/
theorem packetSyms_starts_high (a : NetAddr) {body : List Nibble} (h : body.length = 14)
    (hbody : ∀ n ∈ body, n.getLsbD 3 = true) {k : Nat} (hk : k < 25) :
    (packetSyms a body)[k]?.map (·.getLsbD 3) = some true := by
  have hlen : k < (addrField a ++ sep ++ body).length := by simpa [addrField, sep, h] using hk
  have hall : ∀ n ∈ addrField a ++ sep ++ body, n.getLsbD 3 = true :=
    List.forall_mem_append.mpr ⟨List.forall_mem_append.mpr ⟨addrField_starts_high a, by decide⟩, hbody⟩
  rw [packetSyms, List.getElem?_append_left hlen, List.getElem?_eq_getElem hlen, Option.map_some,
    hall _ (List.getElem_mem hlen)]

/-- R195 for any packet: the address, the separator, 14 data symbols and the pad. -/
theorem packetSyms_chips (a : NetAddr) {body : List Nibble} (h : body.length = 14)
    (hbody : ∀ n ∈ body, n.getLsbD 3 = true) :
    (packetSyms a body).length = 26 ∧
    chips (pack (packetSyms a body)) = (packetSyms a body).flatMap symChips ∧
    (chips (pack (packetSyms a body))).length = 104 ∧
    (∀ k, 100 ≤ k → k < 104 → (chips (pack (packetSyms a body)))[k]? = some false) ∧
    ∀ n < 25, (chips (pack (packetSyms a body)))[4 * n]? = some true := by
  have hlen := packetSyms_length a h
  rw [chips_pack 13 hlen]
  refine ⟨hlen, rfl, by simp [List.length_flatMap, hlen], fun k hlo hhi => ?_, fun n hn => ?_⟩
  · obtain ⟨j, rfl⟩ := Nat.exists_eq_add_of_le hlo
    have hchip := flatMap_symChips_getElem? (j := j) (by omega) (packetSyms a body) 25
    rw [packetSyms_pad a h] at hchip
    exact hchip.trans (congrArg some BitVec.getLsbD_zero)
  · have hchip := flatMap_symChips_getElem? (j := 0) (by decide) (packetSyms a body) n
    exact hchip.trans (packetSyms_starts_high a h hbody hn)

/-- Settles O56: both kinds of packet have the shape of `packetSyms`, with data symbols up to the pad. -/
theorem packetChipView : Obligations.PacketChipView := by
  rintro p a d c syms bs (⟨rfl, rfl⟩ | ⟨rfl, rfl⟩)
  · rw [cmdPacket, cmdSyms_eq]
    exact packetSyms_chips a (cmdBody_length p d c) (cmdBody_starts_high p d c)
  · rw [endPacket, endSyms_eq]
    exact packetSyms_chips a (endField_length p) groups_start_high

/-! ## Reading the fields back -/

/-- The bits of an address, bit 4 first, are its binary digits. -/
theorem netAddr_toNat_eq_sum : ∀ a : NetAddr,
    a.toNat = ((List.range 5).map fun i => if a.getLsbD (4 - i) = true then 2 ^ (4 - i) else 0).sum := by decide

theorem unsym_addrField (a : NetAddr) {i : Nat} (hi : i < 5) :
    ((addrField a)[2 * i]?).bind unsym = some (a.getLsbD (4 - i)) ∧
    ((addrField a)[2 * i + 1]?).bind unsym = some true := by
  obtain ⟨hbit, hcompanion⟩ := addrField_getElem? a hi
  rw [hbit, hcompanion]
  exact ⟨unsym_sym _, unsym_sym true⟩

/-- Settles O48: each symbol of the field is read back as the bit it was made of. -/
theorem addressFieldReadsBack : Obligations.AddressFieldReadsBack := by
  refine fun a => ⟨?_, fun i hi => ?_⟩
  · rw [netAddr_toNat_eq_sum a]
    refine congrArg List.sum (List.map_congr_left fun i hi => ?_)
    simp only [(unsym_addrField a (List.mem_range.mp hi)).1, Option.some_inj]
  · obtain ⟨hbit, hcompanion⟩ := unsym_addrField a hi
    exact ⟨hbit ▸ Option.some_ne_none _, hcompanion⟩

/-- Settles O50, by reading the default action tables. -/
theorem actionPatternsMirrorAndComplement : Obligations.ActionPatternsMirrorAndComplement := by
  unfold Obligations.ActionPatternsMirrorAndComplement
  decide

end Sys2Proof.Machine
end

section
/-! TRANSMIT, ON, OFF and BUILD_FRAME at acceptance (R231, R236): the operand check, the configuration gate, and the frame in
the buffer. -/

namespace Sys2Proof.Machine

/-! ## The loaded frame -/

theorem fbBytes_getElem? (m : List Host.Cell) {k : Nat} (hk : k < 195) : (fbBytes m)[k]? = some (memRead m k) := by
  rw [fbBytes, List.getElem?_map, List.getElem?_range (show k < frameLen from hk), Option.map_some]

theorem memRead_loadFrame {m : List Host.Cell} (h : Memory.wf m = true) (p : Params) (a : NetAddr) (d : Device)
    (c : Action) : ∀ k < 195, some (memRead (memWriteAll m 0 (buildFrame p a d c)) k) = (buildFrame p a d c)[k]? := by
  intro k hk
  rw [← fbBytes_getElem? _ hk, fbBytes_loadFrame h]

/-- Settles O53: `frameLen` is 195. -/
theorem frameHas195Bytes : Obligations.FrameHas195Bytes :=
  buildFrame_length

/-! ## The checks TRANSMIT and BUILD_FRAME share (R255) -/

section
variable {s : State} {go : NetAddr → Device → Action → State → State}

theorem accept_gated_invalid (h : idle s.core) {x y z : Byte} (ho : 31 < x.toNat ∨ 4 < y.toNat ∨ 1 < z.toNat) :
    accept s (gated x y z go) = .next { s with core := refusedWith s.core 2 } := by
  rw [accept_gated h, (txOperands_none_iff x y z).mpr ho]

theorem accept_gated_unconfigured (h : s.core.seq = .idleUnconf) (a : NetAddr) (d : Device) (c : Action) :
    accept s (gated (a.setWidth 8) (devByte d) (actByte c) go) = .next { s with core := refusedWith s.core 3 } := by
  rw [accept_gated (.inl h), txOperands_fields]
  exact if_neg (by rw [h]; decide)

theorem accept_gated_ready (h : s.core.seq = .idleReady) (a : NetAddr) (d : Device) (c : Action) :
    accept s (gated (a.setWidth 8) (devByte d) (actByte c) go) =
      .next (go a d c { s with core := accepted s.core }) := by
  rw [accept_gated (.inr h), txOperands_fields]
  exact if_pos h

end

/-! ## The two commands -/

/-- The record of an accepted TRANSMIT: its frame is in the buffer and the transmit steps start (R231). -/
def loadedCore (p : Params) (k : Core) (a : NetAddr) (d : Device) (c : Action) : Core :=
  { accepted k with
    cur := .transmit a d c, fb := memWriteAll k.fb 0 (buildFrame p a d c), fifoPos := 0, chunkIdx := 0, seq := .tPayload }

theorem accept_transmit_ready {s : State} (h : s.core.seq = .idleReady) (a : NetAddr) (d : Device) (c : Action) :
    accept s (gated (a.setWidth 8) (devByte d) (actByte c) startTransmit) =
      .next { s with core := loadedCore s.params s.core a d c } :=
  accept_gated_ready h a d c

/-- With valid operands TRANSMIT, ON and OFF are one acceptance (R88). -/
theorem exec_transmit_forms {i : Instr} {a : NetAddr} {d : Device} {c : Action}
    (h : i = .transmit (a.setWidth 8) (devByte d) (actByte c) ∨ (i = .on (a.setWidth 8) (devByte d) ∧ c = .on) ∨
      (i = .off (a.setWidth 8) (devByte d) ∧ c = .off)) (s : State) :
    exec i s = accept s (gated (a.setWidth 8) (devByte d) (actByte c) startTransmit) := by
  obtain rfl | ⟨rfl, rfl⟩ | ⟨rfl, rfl⟩ := h <;> rfl

/-- Settles O20: the three answers of the shared checks, the last of which loads the frame. -/
theorem transmitStartsTheSteps : Obligations.TransmitStartsTheSteps := by
  intro s hfb
  refine ⟨fun _ _ _ hidle ho => accept_gated_invalid hidle ho, fun _ _ hidle ho => ?_, fun a d c i hi => ?_⟩
  · exact ⟨accept_gated_invalid hidle (or_assoc.mp (.inl ho)), accept_gated_invalid hidle (or_assoc.mp (.inl ho))⟩
  · rw [exec_transmit_forms hi s]
    refine ⟨fun hq => accept_gated_unconfigured hq a d c, fun hq => ?_⟩
    exact ⟨_, accept_transmit_ready hq a d c, memWriteAll_wf _ 0 hfb, memRead_loadFrame hfb s.params a d c⟩

/-- BUILD_FRAME after its checks: what it returns is the frame it has loaded. -/
theorem startBuildFrame_eq {s : State} (hfb : Memory.wf s.core.fb = true) (a : NetAddr) (d : Device) (c : Action) :
    startBuildFrame a d c s = { s with core := { s.core with
      cur := .buildFrame a d c, fb := memWriteAll s.core.fb 0 (buildFrame s.params a d c),
      result := some (buildFrame s.params a d c) } } := by
  simp only [startBuildFrame, returnBuffer, State.withCore, Core.setCur, Core.setFb, Core.setResult,
    fbBytes_loadFrame hfb]

theorem exec_buildFrameCmd_ready {s : State} (hfb : Memory.wf s.core.fb = true) (h : s.core.seq = .idleReady)
    (a : NetAddr) (d : Device) (c : Action) :
    exec (.buildFrameCmd (a.setWidth 8) (devByte d) (actByte c)) s = .next { s with core := { accepted s.core with
      cur := .buildFrame a d c, fb := memWriteAll s.core.fb 0 (buildFrame s.params a d c),
      result := some (buildFrame s.params a d c) } } :=
  (accept_gated_ready h a d c).trans
    (congrArg _ (startBuildFrame_eq (s := { s with core := accepted s.core }) hfb a d c))

/-- Settles O21: the three answers of the shared checks, the last of which returns the loaded buffer. -/
theorem buildFrameReturnsTheFrame : Obligations.BuildFrameReturnsTheFrame := by
  intro s hfb
  refine ⟨fun _ _ _ hidle ho => accept_gated_invalid hidle ho, fun a d c =>
    ⟨fun hq => accept_gated_unconfigured hq a d c, fun hq => ?_⟩⟩
  exact ⟨_, _, exec_buildFrameCmd_ready hfb hq a d c, memWriteAll_wf _ 0 hfb, memRead_loadFrame hfb s.params a d c⟩

end Sys2Proof.Machine
end

section
/-! A frame determines its operands (R222): a frame gives its first packet, a packet its symbols, and the fields their
operands. -/

namespace Sys2Proof.Machine

theorem packByte_injective {hi lo hi' lo' : Nibble} (h : packByte hi lo = packByte hi' lo') : hi = hi' ∧ lo = lo' := by
  obtain ⟨hhi, hlo⟩ := packByte_nibbles hi lo
  obtain ⟨hhi', hlo'⟩ := packByte_nibbles hi' lo'
  rw [h] at hhi hlo
  exact ⟨hhi.symm.trans hhi', hlo.symm.trans hlo'⟩

/-- Packing loses nothing of an even number of symbols. -/
theorem pack_injective : ∀ (m : Nat) {ns ns' : List Nibble}, ns.length = 2 * m → ns'.length = 2 * m →
    pack ns = pack ns' → ns = ns'
  | 0, [], [], _, _, _ => rfl
  | m + 1, hi :: lo :: ns, hi' :: lo' :: ns', hl, hl', h => by
    obtain ⟨hbyte, hrest⟩ := List.cons.inj h
    obtain ⟨rfl, rfl⟩ := packByte_injective hbyte
    rw [pack_injective m (by simpa [Nat.mul_succ] using hl) (by simpa [Nat.mul_succ] using hl') hrest]

theorem addrField_injective {a a' : NetAddr} (h : addrField a = addrField a') : a = a' :=
  BitVec.eq_of_toNat_eq (by rw [(addressFieldReadsBack a).1, (addressFieldReadsBack a').1, h])

theorem actField_injective {p : Params} (hp : p.actOn ≠ p.actOff) {c c' : Action} (h : actField p c = actField p c') :
    c = c' := by
  have hgroups : ∀ {x y : Group × Group}, grp x.1 ++ grp x.2 = grp y.1 ++ grp y.2 → x = y := fun h => by
    obtain ⟨hfst, hsnd⟩ := List.append_inj h rfl
    exact Prod.ext (grp_injective hfst) (grp_injective hsnd)
  cases c <;> cases c'
  case on.on | off.off => rfl
  case on.off => exact absurd (hgroups h) hp
  case off.on => exact absurd (hgroups h.symm) hp

/-- The fields of a command packet stand at the same places whatever the operands are (R191). -/
theorem cmdSyms_fields {p : Params} {a a' : NetAddr} {d d' : Device} {c c' : Action}
    (h : cmdSyms p a d c = cmdSyms p a' d' c') :
    addrField a = addrField a' ∧ devField p d = devField p d' ∧ actField p c = actField p c' := by
  obtain ⟨hdata, -⟩ := List.append_inj' h rfl
  obtain ⟨hfront, hact⟩ := List.append_inj hdata rfl
  obtain ⟨haddrSep, hdev⟩ := List.append_inj hfront rfl
  exact ⟨(List.append_inj haddrSep rfl).1, hdev, hact⟩

theorem cmdPacket_of_buildFrame {p : Params} {a a' : NetAddr} {d d' : Device} {c c' : Action}
    (h : buildFrame p a d c = buildFrame p a' d' c') : cmdPacket p a d c = cmdPacket p a' d' c' := by
  obtain ⟨-, hpacket⟩ := frameLayoutByPacket p a d c
  obtain ⟨-, hpacket'⟩ := frameLayoutByPacket p a' d' c'
  have hfirst := hpacket 0 (by decide)
  rw [h] at hfirst
  exact hfirst.symm.trans (hpacket' 0 (by decide))

/-- Settles O55: each field tells its operands apart. -/
theorem frameDeterminesItsOperands : Obligations.FrameDeterminesItsOperands := by
  intro p a a' d d' c c' hsel hact h
  have hsyms : cmdSyms p a d c = cmdSyms p a' d' c' :=
    pack_injective 13 (cmdSyms_length p a d c) (cmdSyms_length p a' d' c') (cmdPacket_of_buildFrame h)
  obtain ⟨haddr, hdev, hactions⟩ := cmdSyms_fields hsyms
  exact ⟨addrField_injective haddr, (deviceFieldSelectsOneGroup p hsel).1 d d' hdev, actField_injective hact hactions⟩

end Sys2Proof.Machine
end

section
/-! The three transmit steps one by one (R232 to R234). -/

namespace Sys2Proof.Machine

/-- From acceptance to the first burst of a TRANSMIT the payload length is cached (R28, R158). -/
theorem Inv.payloadCached {s : State} (h : Inv s) (hq : s.core.seq = .idleReady ∨ s.core.seq = .tPayload) :
    s.core.plenCache = some payloadLen := by
  have hsession := h.session
  obtain hq | hq := hq <;> rw [sessionOk, hq] at hsession <;> exact hsession.1

theorem exec_tPayload_cached {s : State} (h : s.core.plenCache = some payloadLen) :
    exec .tPayload s = .next { s with core := { s.core with seq := .tMode } } :=
  if_pos h

/-- Settles O39: the step compares the cache with 195, and the session of the invariant has it. -/
theorem payloadLengthIsWrittenOnlyIfNotCached : Obligations.PayloadLengthIsWrittenOnlyIfNotCached := by
  refine fun s => ⟨fun hinv hq => ?_, exec_tPayload_cached, fun hc => ?_⟩
  · have hcached := hinv.payloadCached (.inr hq)
    exact ⟨hcached, exec_tPayload_cached hcached⟩
  · exact runWrites_inOrder (if_neg hc) rfl fun _ h => h ▸ rfl

/-- Settles O40: the step tests the flag, and its one write sets it. -/
theorem txModeIsWrittenOnlyOnce : Obligations.TxModeIsWrittenOnlyOnce :=
  fun _ => ⟨fun hset => if_pos hset,
    fun hset => runWrites_inOrder (if_neg (Bool.eq_false_iff.mp hset)) rfl fun _ h => h ▸ rfl⟩

/-- T_FIFO where the chunk exists and lies in the buffer. -/
theorem exec_tFifo {s : State} {n : Nat} (hn : s.params.fifoChunks[s.core.chunkIdx]? = some n)
    (hpos : s.core.fifoPos + n ≤ frameLen) :
    exec .tFifo s = runWrites [writeBytes s.params s.params.regFifo
      ((List.range n).map fun j => memRead s.core.fb (s.core.fifoPos + j))] s s (afterBurst n) := by
  change execTFifo s = _
  rw [execTFifo, hn]
  simp only [fbSlice_eq s n s.core.fifoPos hpos]

/-- Settles O41: one burst of the chunk's bytes, then the counters. -/
theorem fifoStepBurstsOneChunk : Obligations.FifoStepBurstsOneChunk :=
  fun _ _ hn hpos => runWrites_inOrder (exec_tFifo hn hpos) rfl fun _ h => h ▸ rfl

end Sys2Proof.Machine
end

section
/-! A whole TRANSMIT (R235): the word is taken, the length is cached, the mode is written at most once, and the bursts of the
split hand over the buffer. -/

namespace Sys2Proof

/-- A TRANSMIT or BUILD_FRAME word is one of its row, and its fields are those it was put together from (R83). -/
theorem isTxWord_encodeTx (opc addr dev act : Byte) :
    isTxWord opc (encodeTx opc addr dev act) ∧ (encodeTx opc addr dev act).extractLsb' 0 8 = addr ∧
    (encodeTx opc addr dev act).extractLsb' 8 8 = dev ∧ (encodeTx opc addr dev act).extractLsb' 16 8 = act := by
  have hword : (encodeTx opc addr dev act).extractLsb' 0 (8 + 32 + 8 + 8 + 8) =
      opc ++ 0#32 ++ act ++ dev ++ addr := BitVec.extractLsb'_eq_self
  simp only [extractLsb'_eq_append_iff] at hword
  obtain ⟨⟨⟨⟨hopc, hzero⟩, hact⟩, hdev⟩, haddr⟩ := hword
  exact ⟨⟨hopc, hzero⟩, haddr, hdev, hact⟩

theorem decodeCmd_encodeTransmit (addr dev act : Byte) :
    decodeCmd (encodeTx 0x02 addr dev act) = .transmit addr dev act := by
  obtain ⟨hrow, haddr, hdev, hact⟩ := isTxWord_encodeTx 0x02 addr dev act
  rw [decodeCmd_of_transmit hrow, haddr, hdev, hact]

end Sys2Proof

namespace Sys2Proof.Machine

theorem live_of_inv {s : State} (h : Inv s) (hr : s.resetReq = false) : live s := ⟨h.params, hr, h.err⟩

/-- An idle configured core that is presented a TRANSMIT word with valid operands takes it. -/
theorem step_transmitWord {s : State} {a : NetAddr} {d : Device} {c : Action} {ws : List CmdWord} (hlive : live s)
    (hu : s.unit = none) (hq : s.core.seq = .idleReady)
    (hhost : s.host = encodeTx 0x02 (a.setWidth 8) (devByte d) (actByte c) :: ws) :
    step s = .next { s with host := ws, core := loadedCore s.params s.core a d c } := by
  rw [step_of_host hlive hu (.inr hq) hhost, decodeCmd_encodeTransmit]
  exact accept_transmit_ready (s := { s with host := ws }) hq a d c

/-! ## The steps before the bursts -/

/-- A step without an event issues the empty list of writes. -/
theorem WritesInOrder.of_silent {i : Instr} {s : State} {started finished : Core}
    (h : exec i s = .next { s with core := finished }) : WritesInOrder i s [] started finished := by
  refine ⟨fun bs e hl he => ?_, fun bs out rest k e hd _ _ => by simp at hd⟩
  obtain rfl : bs = [] := List.length_eq_zero_iff.mp hl
  obtain rfl : s.env = e := he
  rw [h, List.map_nil, List.append_nil]

/-- The writes of T_MODE: one unless the session has made it (R233). -/
def modeWrites (p : Params) (txModeSet : Bool) : List (List Byte) :=
  if txModeSet then [] else [[p.regOpmode ||| p.writeBit, p.modeTxOok]]

/-- A configured session that has set the flag is in the mode of R233. -/
theorem Inv.shadow_of_txModeSet {s : State} (h : Inv s) (hq : s.core.seq = .idleReady) :
    s.core.txModeSet = true → s.core.shadowMode = .txOok := by
  have hsession := h.session
  rw [sessionOk, hq] at hsession
  obtain ⟨-, ⟨-, hset⟩ | ⟨hmode, -⟩⟩ := hsession
  · exact fun hx => absurd (hset.symm.trans hx) Bool.false_ne_true
  · exact fun _ => hmode

/-- With or without the write, T_MODE leaves the session in mode TX_OOK. -/
theorem tMode_writesInOrder {s : State} (h : s.core.txModeSet = true → s.core.shadowMode = .txOok) :
    WritesInOrder .tMode s (modeWrites s.params s.core.txModeSet) s.core
      { s.core with txModeSet := true, shadowMode := .txOok, seq := .tFifo } := by
  obtain ⟨hsilent, hwrites⟩ := txModeIsWrittenOnlyOnce s
  cases hset : s.core.txModeSet with
  | false => exact hwrites hset
  | true =>
    have hcore : { s.core with txModeSet := true, shadowMode := .txOok, seq := .tFifo } = { s.core with seq := .tFifo } := by
      rw [← hset, ← h hset]
    rw [hcore]
    exact .of_silent (hsilent hset)

/-- Steps 12 and 13, with the payload length cached. -/
theorem payloadModeSteps_writesRun {s : State} {c : Core} (hlive : live { s with core := c }) (hu : s.unit = none)
    (hcached : c.plenCache = some payloadLen) (hmode : c.txModeSet = true → c.shadowMode = .txOok) :
    WritesRun s 2 { c with seq := .tPayload } (modeWrites s.params c.txModeSet)
      { c with txModeSet := true, shadowMode := .txOok, seq := .tFifo } := by
  have payload : WritesRun s 1 { c with seq := .tPayload } [] { c with seq := .tMode } :=
    .of_step hlive hu rfl fun _ _ => ⟨c, .of_silent (exec_tPayload_cached hcached)⟩
  have mode : WritesRun s 1 { c with seq := .tMode } (modeWrites s.params c.txModeSet)
      { c with txModeSet := true, shadowMode := .txOok, seq := .tFifo } :=
    .of_step hlive hu rfl fun _ _ => ⟨_, tMode_writesInOrder hmode⟩
  exact payload.trans mode

/-! ## The bursts -/

/-- The record of a TRANSMIT with `pos` bytes and `idx` chunks handed over (R234). -/
def fifoCore (c : Core) (pos idx : Nat) : Core :=
  { c with fifoPos := pos, chunkIdx := idx, seq := if pos = frameLen then .idleReady else .tFifo }

/-- The transactions that hand over bytes in chunks of the given lengths (R234). -/
def fifoWrites (p : Params) (chunks : List Nat) (bytes : List Byte) : List (List Byte) :=
  (chunks.splitLengths bytes).map (writeBytes p p.regFifo)

theorem take_drop_fbBytes (m : List Host.Cell) {n pos : Nat} (h : pos + n ≤ frameLen) :
    ((fbBytes m).drop pos).take n = (List.range n).map fun j => memRead m (pos + j) := by
  refine List.ext_getElem? fun j => ?_
  by_cases hj : j < n
  · rw [List.getElem?_take_of_lt hj, List.getElem?_drop, fbBytes_getElem? m (show pos + j < frameLen by omega),
      List.getElem?_map, List.getElem?_range hj, Option.map_some]
  · rw [List.getElem?_take_eq_none (by omega), List.getElem?_eq_none (by simpa using hj)]

section
variable {s : State} {c : Core}

theorem WritesRun.refl : WritesRun s 0 c [] c := by
  intro tr bs e hl
  obtain rfl : bs = [] := List.length_eq_zero_iff.mp hl
  rw [run_zero, List.map_nil, List.append_nil]; rfl

/-- One burst, before the last byte is handed over. -/
theorem fifoStep_writesRun (hlive : live { s with core := c }) (hu : s.unit = none) {n pos idx : Nat}
    (hn : s.params.fifoChunks[idx]? = some n) (hmore : pos < frameLen) (hpos : pos + n ≤ frameLen) :
    WritesRun s 1 (fifoCore c pos idx) [writeBytes s.params s.params.regFifo (((fbBytes c.fb).drop pos).take n)]
      (fifoCore c (pos + n) (idx + 1)) := by
  have hq : (fifoCore c pos idx).seq = .tFifo := if_neg hmore.ne
  rw [take_drop_fbBytes c.fb hpos]
  exact .of_step hlive hu (by rw [hq]; rfl) fun _ _ => ⟨_, fifoStepBurstsOneChunk _ n hn hpos⟩

/-- The bursts of the chunks that are left, whose sum is the number of bytes that are left. -/
theorem fifoSteps_writesRun (hlive : live { s with core := c }) (hu : s.unit = none) : ∀ (chunks : List Nat) {pos idx : Nat},
    s.params.fifoChunks.drop idx = chunks → 0 ∉ chunks → pos + chunks.sum = frameLen →
    WritesRun s chunks.length (fifoCore c pos idx) (fifoWrites s.params chunks ((fbBytes c.fb).drop pos))
      (fifoCore c frameLen (idx + chunks.length))
  | [], pos, idx, _, _, hsum => by
    obtain rfl : pos = frameLen := hsum
    exact .refl
  | n :: chunks, pos, idx, hdrop, hzero, hsum => by
    obtain ⟨hn0, hzero'⟩ := not_or.mp (List.mem_cons.not.mp hzero)
    rw [List.sum_cons] at hsum
    have hn : s.params.fifoChunks[idx]? = some n := by
      rw [← Nat.add_zero idx, ← List.getElem?_drop, hdrop]; rfl
    have hdrop' : s.params.fifoChunks.drop (idx + 1) = chunks := by rw [← List.drop_drop, hdrop]; rfl
    have burst := fifoStep_writesRun hlive hu hn (pos := pos) (by omega) (by omega)
    have rest := fifoSteps_writesRun hlive hu chunks hdrop' hzero' (pos := pos + n) (by omega)
    rw [← List.drop_drop] at rest
    have all := burst.trans rest
    rw [fifoWrites, List.splitLengths_cons, List.map_cons, List.length_cons, Nat.add_comm chunks.length 1, ← Nat.add_assoc]
    exact all

/-- Steps 12 to 14 of a TRANSMIT whose frame is in the buffer. -/
theorem transmitSteps_writesRun (hlive : live { s with core := c }) (hu : s.unit = none) (hwf : chunksWf s.params = true)
    (hcached : c.plenCache = some payloadLen) (hmode : c.txModeSet = true → c.shadowMode = .txOok) :
    WritesRun s (2 + s.params.fifoChunks.length) { c with fifoPos := 0, chunkIdx := 0, seq := .tPayload }
      (modeWrites s.params c.txModeSet ++ fifoWrites s.params s.params.fifoChunks (fbBytes c.fb))
      (fifoCore { c with txModeSet := true, shadowMode := .txOok } frameLen s.params.fifoChunks.length) := by
  obtain ⟨hzero, hsum⟩ := (chunksWf_iff s.params).mp hwf
  have bursts := fifoSteps_writesRun (c := { c with txModeSet := true, shadowMode := .txOok }) hlive hu
    s.params.fifoChunks (pos := 0) (idx := 0) rfl hzero ((Nat.zero_add _).trans hsum)
  rw [Nat.zero_add] at bursts
  exact (payloadModeSteps_writesRun (c := { c with fifoPos := 0, chunkIdx := 0 }) hlive hu hcached hmode).trans bursts

end

/-- One answer for each transaction of a TRANSMIT. -/
theorem transmitWrites_length (p : Params) (x : Bool) (bytes : List Byte) :
    (modeWrites p x ++ fifoWrites p p.fifoChunks bytes).length = (if x then 0 else 1) + p.fifoChunks.length := by
  cases x <;> simp [modeWrites, fifoWrites, Nat.add_comm 1]

/-- What a TRANSMIT adds to the trace: the mode write, if any, then the bursts. -/
theorem transmitWrites_events (p : Params) (x : Bool) (bytes : List Byte) :
    (modeWrites p x ++ fifoWrites p p.fifoChunks bytes).map okWrite =
      (if x then [] else [okWrite [p.regOpmode ||| p.writeBit, p.modeTxOok]]) ++
      (p.fifoChunks.splitLengths bytes).map fun b => okWrite ((p.regFifo ||| p.writeBit) :: b) := by
  rw [List.map_append, fifoWrites, List.map_map]
  cases x <;> rfl

/-- Settles O42: the word is taken, then the transmit steps run; the parts are the frame split by the chunk lengths. -/
theorem transmitSendsExactlyTheFrame : Obligations.TransmitSendsExactlyTheFrame := by
  intro s a d c ws bs e hinv hr hu hq hhost henv hl
  obtain ⟨-, hchunks, -⟩ := (paramsWf_iff s.params).mp hinv.params
  have hsum : s.params.fifoChunks.sum = (buildFrame s.params a d c).length := by
    rw [buildFrame_length]; exact ((chunksWf_iff s.params).mp hchunks).2
  have hloaded : fbBytes (loadedCore s.params s.core a d c).fb = buildFrame s.params a d c :=
    fbBytes_loadFrame hinv.fb s.params a d c
  have hsteps := transmitSteps_writesRun (s := { s with host := ws }) (c := loadedCore s.params s.core a d c)
    ⟨hinv.params, hr, rfl⟩ hu hchunks (hinv.payloadCached (.inl hq)) (hinv.shadow_of_txModeSet hq)
    s.trace bs e (hl.trans (transmitWrites_length _ _ _).symm)
  rw [transmitWrites_events, hloaded, ← henv, ← List.append_assoc] at hsteps
  have hrun := (run_succ_next _ (step_transmitWord (live_of_inv hinv hr) hu hq hhost)).trans hsteps
  rw [Nat.add_right_comm] at hrun
  exact ⟨_, _, hrun, List.map_splitLengths_length _ _ hsum.le, List.flatten_splitLengths _ _ hsum.ge,
    rfl, rfl, rfl, rfl, rfl, rfl, rfl, rfl, rfl⟩

end Sys2Proof.Machine
end

section
/-! Errors: the error exit (R254), a command refused at acceptance (R252), and which of several errors is reported (R255). -/

namespace Sys2Proof.Machine

/-- Settles O25: the exits of the two kinds of error. -/
theorem errorExitRecordsAndForgets : Obligations.ErrorExitRecordsAndForgets :=
  fun s q => ⟨raiseErr_execution rfl q s, raiseErr_execution rfl q s, raiseErr_acceptance rfl q s,
    raiseErr_acceptance rfl q s, raiseErr_acceptance rfl q s⟩

/-! ## Refusal at acceptance -/

/-- The errors that acceptance raises are those of codes 2 to 4 (R250, R252). -/
theorem errCode_mem_of_acceptance {e : Err} (h : endsSession e = false) : (errCode e).toNat ∈ [2, 3, 4] := by
  cases e with
  | invalidParameter | configNotComplete | illegalCommand => decide
  | transportFailure | preconditionViolation => cases h

/-- Settles O22: of a host command's ends from an idle state only the refusal leaves an error. -/
theorem refusedCommandChangesNothingElse : Obligations.RefusedCommandChangesNothingElse := by
  intro s t i hi hidle h herr
  cases exec_commandEnd hi h with
  | ignored hbusy => exact absurd hidle (not_idle_of_busy hbusy)
  | refused _ e he => exact ⟨rfl, errCode_mem_of_acceptance he⟩
  | configures | transmits | builds => exact absurd rfl herr

/-! ## The order of the checks -/

/-- The frequency CONFIGURE assembles is refused only when it is the word's own and too high (R84, R141). -/
theorem freqValid_freqOperand_iff (d : Bool) (f : BitVec 32) :
    freqValid (freqOperand d f) = true ↔ ¬ (d = false ∧ 1023999969 < f.toNat) := by
  rw [freqValid_iff]
  cases d with
  | true => simp [freqOperand, defaultFreqHz]
  | false => simp [freqOperand]

theorem configure_lastErr {s t : State} {d : Bool} {p : BitVec 8} {f : BitVec 32} (hidle : idle s.core)
    (h : exec (.configure d p f) s = .next t) :
    t.core.lastErr = if d = false ∧ 1023999969 < f.toNat then 2 else 0 := by
  rw [exec_configure, accept_configure hidle] at h
  split at h
  · next hf => cases h; exact (if_neg ((freqValid_freqOperand_iff d f).mp hf)).symm
  · next hf => cases h; exact (if_pos (not_not.mp (mt (freqValid_freqOperand_iff d f).mpr hf))).symm

/-- In IDLE_UNCONF the operands of TRANSMIT and BUILD_FRAME are checked before the configuration gate refuses. -/
theorem gated_lastErr_unconfigured {s t : State} {x y z : Byte} {go : NetAddr → Device → Action → State → State}
    (hq : s.core.seq = .idleUnconf) (h : accept s (gated x y z go) = .next t) :
    t.core.lastErr = if 31 < x.toNat ∨ 4 < y.toNat ∨ 1 < z.toNat then 2 else 3 := by
  by_cases ho : 31 < x.toNat ∨ 4 < y.toNat ∨ 1 < z.toNat
  · rw [accept_gated_invalid (.inl hq) ho] at h
    cases h; exact (if_pos ho).symm
  · obtain ⟨⟨a, d, c⟩, hsome⟩ := Option.ne_none_iff_exists'.mp (mt (txOperands_none_iff x y z).mp ho)
    rw [accept_gated (.inl hq), hsome] at h
    simp only [hq, reduceCtorEq, if_false] at h
    cases h; exact (if_neg ho).symm

/-- Settles O23: a word that matches no row is refused for that; one that matches a row is refused by that row's checks. -/
theorem firstErrorWins : Obligations.FirstErrorWins := by
  intro s t w hq h
  cases hrow : matchesRow w with
  | false =>
    rw [decodeCmd_of_no_row hrow, exec_illegal, accept_illegal (.inl hq)] at h
    cases h; rfl
  | true =>
    rw [if_neg Bool.noConfusion]
    obtain hw | hw | hw := (matchesRow_iff w).mp hrow
    · have hopc := hw.1
      rw [decodeCmd_of_configure hw] at h
      rw [hopc, if_pos (by decide)]
      exact configure_lastErr (.inl hq) h
    · have hopc := hw.1
      rw [decodeCmd_of_transmit hw] at h
      rw [hopc, if_neg (by decide)]
      exact gated_lastErr_unconfigured (go := startTransmit) hq h
    · have hopc := hw.1
      rw [decodeCmd_of_buildFrame hw] at h
      rw [hopc, if_neg (by decide)]
      exact gated_lastErr_unconfigured (go := startBuildFrame) hq h

end Sys2Proof.Machine
end

section
/-! A transport that never answers (R261): a step that issues a transaction stays where it is, and so does every run. -/

namespace Sys2Proof.Machine

/-- A step that stays stays for ever. -/
theorem run_of_step_stays {s : State} (h : step s = .next s) : ∀ k : Nat, Host.Core.run Sys2Proof.core k s = .next s
  | 0 => run_zero s
  | k + 1 => (run_succ_next k h).trans (run_of_step_stays h k)

/-- Without an answer not even the first write ends. -/
theorem runWrites_unanswered {out : List Byte} {outs : List (List Byte)} {s s0 : State} {finish : State → State}
    (h : s0.env = []) : runWrites (out :: outs) s s0 finish = .next s := by
  rw [runWrites, issue_unanswered (out :: outs) s0 [] (Nat.succ_pos _) h]

theorem transmitting.fifoPos_lt {p : Params} {c : Core} (h : transmitting p c) : c.fifoPos < frameLen := by
  unfold transmitting at h
  split at h
  · exact h.2
  · exact h.elim
  · exact h.elim

/-- In T_FIFO there is a chunk left, and it lies in the buffer: the split sums to the frame's length (R8, R234). -/
theorem Inv.nextChunk {s : State} (h : Inv s) (hq : s.core.seq = .tFifo) :
    ∃ n, s.params.fifoChunks[s.core.chunkIdx]? = some n ∧ s.core.fifoPos + n ≤ frameLen := by
  have hmore := (h.frame (.inr (.inr hq))).fifoPos_lt
  have hpos := h.fifo.1
  obtain ⟨-, hchunks, -⟩ := (paramsWf_iff _).mp h.params
  have htotal : s.params.fifoChunks.sum = frameLen := ((chunksWf_iff _).mp hchunks).2
  have hsplit := List.sum_take_add_sum_drop s.params.fifoChunks s.core.chunkIdx
  cases hdrop : s.params.fifoChunks.drop s.core.chunkIdx with
  | nil => rw [hdrop, List.sum_nil] at hsplit; omega
  | cons n rest =>
    rw [hdrop, List.sum_cons] at hsplit
    refine ⟨n, ?_, by omega⟩
    rw [← Nat.add_zero s.core.chunkIdx, ← List.getElem?_drop, hdrop]; rfl

/-- Only a busy code names a step (R21, R22). -/
theorem busy_of_decodeStep {q : Seq} {i : Instr} (h : decodeStep (seqCode q) = .instr i) : busy q = true := by
  cases q with
  | idleUnconf | idleReady | reserved15 => cases h
  | _ => rfl

/-- The sequencer is in a step that issues a transaction, from a state with the invariant (R151 to R159, R233, R234). -/
def transacting (c : Core) : Prop :=
  c.seq ∈ [.cSleep, .cBitrate, .cFreq, .cPower, .cStandby, .cPreamble, .cPacket, .cPayload, .cShaping, .tFifo] ∨
    c.seq = .tMode ∧ c.txModeSet = false

/-- The step a transacting code names waits for its first answer. -/
theorem transactingStep_waits {s : State} (hinv : Inv s) (henv : s.env = []) (hq : transacting s.core) :
    ∃ i, decodeStep (seqCode s.core.seq) = .instr i ∧ exec i s = .next s := by
  cases hs : s.core.seq with
  | idleUnconf | cReset | idleReady | tPayload | reserved15 => simp [transacting, hs] at hq
  | cSleep | cPower | cStandby | cPreamble | cPacket | cPayload | cShaping => exact ⟨_, rfl, runWrites_unanswered henv⟩
  | cBitrate => exact ⟨_, rfl, (requireSleep_of_sleep (hinv.sleep (.inl hs)) _).trans (runWrites_unanswered henv)⟩
  | cFreq => exact ⟨_, rfl, (requireSleep_of_sleep (hinv.sleep (.inr hs)) _).trans (runWrites_unanswered henv)⟩
  | tMode =>
    have hset : s.core.txModeSet = false := by simpa [transacting, hs] using hq
    exact ⟨_, rfl, (if_neg (Bool.eq_false_iff.mp hset)).trans (runWrites_unanswered henv)⟩
  | tFifo =>
    obtain ⟨n, hn, hpos⟩ := hinv.nextChunk hs
    exact ⟨_, rfl, (exec_tFifo hn hpos).trans (runWrites_unanswered henv)⟩

/-- Settles O37: the step the sequencer names waits, so the core stays as it is, busy. -/
theorem silentTransportLeavesTheCoreStuck : Obligations.SilentTransportLeavesTheCoreStuck := by
  intro s k hinv hr hu henv hq
  obtain ⟨i, hd, hx⟩ := transactingStep_waits hinv henv hq
  have hstays : step s = .next s := (step_of_seq (live_of_inv hinv hr) hu hd).trans hx
  exact ⟨run_of_step_stays hstays k, busy_of_decodeStep hd⟩

end Sys2Proof.Machine
end

section
/-! The invariant holds after reset and is kept by every step: by the end of a host command, by a sequencer step that
succeeds, and by the error exit. -/

namespace Sys2Proof.Machine

/-! ## What the invariant speaks of -/

/-- The invariant reads the configuration and the core's record only. -/
theorem Inv.of_core_eq {s t : State} (h : Inv s) (hp : t.params = s.params) (hc : t.core = s.core) : Inv t := by
  obtain ⟨params, core, trace, host, env, unit, unitOut, resetReq⟩ := t
  dsimp only at hp hc
  subst hp hc
  exact { h with }

/-! ## Reset -/

/-- The reset record is a good one under every configuration that passes R8. -/
theorem inv_coreReset {s : State} (hp : paramsWf s.params = true) : Inv (coreReset s) where
  params := hp
  fb := reset_fb_wf
  session := ⟨rfl, rfl, rfl⟩
  err := rfl
  errStep _ := rfl
  inFlight h := by cases h
  result _ h := by cases h
  fifo := ⟨rfl, Nat.zero_le _⟩
  cur h := by cases h
  frame := by rintro (h | h | h) <;> cases h
  freq := (by decide : freqValid defaultFreqHz = true)

/-- Settles O3: the default configuration passes R8. -/
theorem resetStateMeetsTheInvariant : Obligations.ResetStateMeetsTheInvariant :=
  inv_coreReset (s := State.reset) (by decide)

/-- Settles O2: the flag is looked at before anything is fetched. -/
theorem pendingResetIsTaken : Obligations.PendingResetIsTaken := by
  intro s hp hr
  have hstep : step s = .next (coreReset s) := by simp [step, hp, hr]
  exact ⟨coreReset s, hstep, rfl, rfl, rfl, rfl, rfl, rfl, rfl, rfl⟩

/-! ## Sequencer steps and leaf operations -/

/-- The fields a step computes before its first write are none of the invariant's. -/
theorem Inv.started {s : State} (h : Inv s) (i : Instr) :
    Inv { s with core := startedCore s.params i s.core } := by
  cases i <;> exact { h with }

/-- The exit of an execution-time error leaves an idle core without a session (R254). -/
theorem Inv.sessionLost {s : State} (h : Inv s) {e : BitVec 3} (he : errReserved e = false) (h0 : e ≠ 0) :
    Inv { s with core := sessionLost s.core e } := {
  h with
    session := ⟨rfl, rfl, rfl⟩
    err := he
    errStep h := absurd h h0
    inFlight h := by cases h
    cur h := by cases h
    frame := by rintro (h | h | h) <;> cases h }

/-- A busy core moves to another code and session: all else the invariant asks of the new code it asked of the old one. -/
theorem Inv.moves {s : State} (h : Inv s) (hb : busy s.core.seq = true) {q : Seq} {m : ShadowMode} {v : Option Byte}
    {x : Bool} (hs : sessionOk { s.core with seq := q, shadowMode := m, plenCache := v, txModeSet := x })
    (hcur : configuring q = true → configuring s.core.seq = true) (hframe : sending q = true → sending s.core.seq = true) :
    Inv { s with core := { s.core with seq := q, shadowMode := m, plenCache := v, txModeSet := x } } := {
  h with
    session := hs
    inFlight _ := h.inFlight hb
    cur hq := h.cur (hcur hq)
    frame hq := h.frame ((sending_iff _).mp (hframe ((sending_iff _).mpr hq))) }

/-- A frame stays in flight while bytes are left to send. -/
theorem transmitting.setFifo {p : Params} {c : Core} (h : transmitting p c) {pos : Nat} (idx : Nat)
    (hpos : pos < frameLen) : transmitting p (c.setFifo pos idx) := by
  unfold transmitting at h ⊢
  split at h
  · next hcur => simpa [hcur] using ⟨h.1, hpos⟩
  · exact h.elim
  · exact h.elim

theorem Inv.setFifo {s : State} (h : Inv s) {pos idx : Nat}
    (hfifo : pos = (s.params.fifoChunks.take idx).sum ∧ idx ≤ s.params.fifoChunks.length)
    (hpos : sending s.core.seq = true → pos < frameLen) : Inv { s with core := s.core.setFifo pos idx } := {
  h with
    fifo := hfifo
    frame hq := (h.frame hq).setFifo idx (hpos ((sending_iff _).mpr hq)) }

/-- After a burst the counters are still those of whole chunks, and the core stays in T_FIFO only while the frame has bytes
left (R234). -/
theorem Inv.burst {s : State} (h : Inv s) (hq : s.core.seq = .tFifo) :
    Inv { s with core := finishedCore s.params .tFifo s.core } := by
  obtain ⟨n, hn, hle⟩ := h.nextChunk hq
  obtain ⟨hidx, hget⟩ := List.getElem?_eq_some_iff.mp hn
  have hfifo : s.core.fifoPos + n = (s.params.fifoChunks.take (s.core.chunkIdx + 1)).sum := by
    rw [List.sum_take_succ _ _ hidx, hget, ← h.fifo.1]
  have hmoved : Inv { s with core := s.core.setSeq (if s.core.fifoPos + n = frameLen then .idleReady else .tFifo) } := by
    have hsession := h.session
    rw [sessionOk, hq] at hsession
    obtain ⟨hmode, hplen, htx⟩ := hsession
    refine h.moves (by rw [hq]; rfl) ?_ ?_ ?_ <;> split
    · exact ⟨hplen, .inr ⟨hmode, htx⟩⟩
    · exact ⟨hmode, hplen, htx⟩
    all_goals simp [configuring, sending, hq]
  have hcore : finishedCore s.params .tFifo s.core =
      (s.core.setFifo (s.core.fifoPos + n) (s.core.chunkIdx + 1)).setSeq
        (if s.core.fifoPos + n = frameLen then .idleReady else .tFifo) := by
    simp [finishedCore, hn]
  rw [hcore]
  refine hmoved.setFifo ⟨hfifo, hidx⟩ fun hsend => ?_
  rw [Core.setSeq_seq] at hsend
  split at hsend
  · cases hsend
  · next hmore => exact lt_of_le_of_ne hle hmore

/-- The step a code names takes the record to the next code, with the session that code expects. -/
theorem Inv.finished {s : State} {i : Instr} (h : Inv s) (hd : decodeStep (seqCode s.core.seq) = .instr i) :
    Inv { s with core := finishedCore s.params i s.core } := by
  have hb := busy_of_decodeStep hd
  have hsession := h.session
  cases hq : s.core.seq <;> rw [hq] at hd <;> cases hd <;> simp only [sessionOk, hq] at hsession
  case tFifo => exact h.burst hq
  case tMode =>
    have hmoved : Inv { s with core := ((s.core.setTxMode true).setShadow .txOok).setSeq .tFifo } :=
      h.moves hb ⟨rfl, hsession.1, rfl⟩ (by simp [configuring]) (by simp [sending, hq])
    obtain ⟨-, ⟨-, hx⟩ | ⟨hmode, hx⟩⟩ := hsession
    · simpa [finishedCore, hx] using hmoved
    · exact hmoved.of_core_eq rfl (by simp [finishedCore, hx, Core.setSeq, Core.setShadow, Core.setTxMode, ← hmode])
  all_goals
    refine h.moves hb ?_ ?_ ?_
    · simp [sessionOk, hsession]
    · simp [configuring, hq]
    · simp [sending, hq]

theorem Inv.stepEnd {i : Instr} {s t : State} (h : Inv s) (hend : StepEnd i s t)
    (hdone : Inv { s with core := completedCore s.params i s.core }) : Inv t := by
  cases hend with
  | waits => exact h
  | completes => exact hdone.of_core_eq rfl rfl
  | transportFails => exact ((h.started i).sessionLost (e := 1) rfl (by decide)).of_core_eq rfl rfl
  | modeFails => exact h.sessionLost rfl (by decide)

/-- An operation of a leaf block is no host command, and leaves the record alone when it succeeds (log entry 8). -/
theorem decodeUnit_leaf {r : UnitReq} {i : Instr} (hd : decodeUnit r = .instr i) (p : Params) (c : Core) :
    isHostCommand i = false ∧ completedCore p i c = c := by
  obtain ⟨a, v, rfl⟩ | ⟨a, bs, -, rfl⟩ | ⟨a, rfl⟩ | rfl | rfl | rfl | ⟨a, d, k, rfl⟩ | ⟨a, rfl⟩ | ⟨a, d, k, rfl⟩ :=
    decodeUnit_cases hd <;> exact ⟨rfl, rfl⟩

/-! ## Host commands -/

theorem idle_not_sending {c : Core} (h : idle c) : ¬ (c.seq = .tPayload ∨ c.seq = .tMode ∨ c.seq = .tFifo) := by
  rcases h with h | h <;> rw [h] <;> decide

theorem idle_not_configuring {c : Core} (h : idle c) : ¬ configuring c.seq = true := by
  rcases h with h | h <;> rw [h] <;> decide

/-- A refused command leaves an idle core with an error of R250. -/
theorem Inv.refused {s : State} (h : Inv s) (hidle : idle s.core) (e : Err) :
    Inv { s with core := refusedWith s.core (errCode e) } := {
  h with
    err := by cases e <;> rfl
    errStep h0 := by cases e <;> cases h0
    inFlight hb := absurd hidle (not_idle_of_busy hb)
    result _ hr := by cases hr }

/-- A started CONFIGURE has no session and a frequency that fits (R140, R141). -/
theorem Inv.configures {s : State} (h : Inv s) {f : BitVec 32} (p : BitVec 8) (hf : freqValid f = true) :
    Inv { s with core := { accepted s.core with
      cur := .configure, freqHz := f, powerReq := p, shadowMode := .unknown, plenCache := none, txModeSet := false,
      seq := .cReset } } := {
  h with
    session := ⟨rfl, rfl, rfl⟩
    err := rfl
    errStep _ := rfl
    inFlight _ := ⟨rfl, rfl⟩
    result _ hr := by cases hr
    cur _ := rfl
    frame := by rintro (hq | hq | hq) <;> cases hq
    freq := hf }

/-- A started TRANSMIT has its frame in the buffer and nothing of it sent (R231). -/
theorem Inv.transmits {s : State} (h : Inv s) (hq : s.core.seq = .idleReady) (a : NetAddr) (d : Device) (c : Action) :
    Inv (startTransmit a d c { s with core := accepted s.core }) := {
  h with
    fb := memWriteAll_wf _ _ h.fb
    session := by
      have hsession := h.session
      rw [sessionOk, hq] at hsession
      exact hsession
    err := rfl
    errStep _ := rfl
    inFlight _ := ⟨rfl, rfl⟩
    result _ hr := by cases hr
    fifo := ⟨rfl, Nat.zero_le _⟩
    cur hconf := by cases hconf
    frame _ := ⟨fbBytes_loadFrame h.fb s.params a d c, (by decide : 0 < frameLen)⟩ }

/-- BUILD_FRAME leaves an idle core with the whole buffer as its result (R236). -/
theorem Inv.builds {s : State} (h : Inv s) (hq : s.core.seq = .idleReady) (a : NetAddr) (d : Device) (c : Action) :
    Inv (startBuildFrame a d c { s with core := accepted s.core }) := {
  h with
    fb := memWriteAll_wf _ _ h.fb
    err := rfl
    errStep _ := rfl
    inFlight hb := absurd (.inr hq) (not_idle_of_busy hb)
    result r hr := by
      obtain rfl : fbBytes _ = r := Option.some.inj hr
      simp [fbBytes]
    cur hconf := absurd hconf (idle_not_configuring (.inr hq))
    frame hsend := absurd hsend (idle_not_sending (.inr hq)) }

theorem Inv.commandEnd {s t : State} (h : Inv s) (hend : CommandEnd s t) : Inv t := by
  cases hend with
  | ignored => exact h
  | refused hidle e => exact h.refused hidle e
  | configures _ f p hf => exact h.configures p hf
  | transmits hq => exact h.transmits hq _ _ _
  | builds hq => exact h.builds hq _ _ _

/-- Settles O4, by what was fetched and how it ended. -/
theorem everyStepKeepsTheInvariant : Obligations.EveryStepKeepsTheInvariant := by
  intro s t h hstep
  obtain ⟨hp, ⟨-, rfl⟩ | ⟨-, -, ⟨-, rfl⟩ | ⟨-, rfl⟩ | ⟨i, u, hf, hx⟩⟩⟩ := step_cases hstep
  · exact inv_coreReset hp
  · exact h
  · exact h
  · obtain ⟨r, -, hd, rfl⟩ | ⟨-, hd, rfl⟩ | ⟨-, -, w, ws, -, rfl, rfl⟩ := fetch_cases hf
    · have hu : Inv { s with unit := none } := h.of_core_eq rfl rfl
      obtain ⟨hleaf, hcore⟩ := decodeUnit_leaf hd s.params s.core
      exact hu.stepEnd (exec_stepEnd hleaf hx) (by rwa [hcore])
    · exact h.stepEnd (exec_stepEnd (decodeStep_not_hostCommand hd) hx)
        ((h.started i).finished (by rwa [startedCore_seq]))
    · have hw : Inv { s with host := ws } := h.of_core_eq rfl rfl
      exact hw.commandEnd (exec_commandEnd (decodeCmd_isHostCommand w) hx)

end Sys2Proof.Machine
end

section
/-! From the invariant the machine does not stop: every operation, step and command it can fetch answers a next state. -/

namespace Sys2Proof.Machine

theorem runWrites_next (outs : List (List Byte)) (s s0 : State) (finish : State → State) :
    ∃ t, runWrites outs s s0 finish = .next t := by
  obtain ⟨bs, e, -, -, h⟩ | ⟨bs, o, r, k, e, -, -, h⟩ | ⟨bs, -, -, h⟩ := runWrites_cases outs s s0 finish <;>
    exact ⟨_, h⟩

theorem execRd_next (a : RegAddr) (s : State) : ∃ t, execRd a s = .next t := by
  unfold execRd
  split <;> exact ⟨_, rfl⟩

/-- Every operation a leaf block decodes runs: a decoded burst is not empty. -/
theorem exec_next_of_decodeUnit {r : UnitReq} {i : Instr} (hd : decodeUnit r = .instr i) (s : State) :
    ∃ t, exec i s = .next t := by
  obtain ⟨a, v, rfl⟩ | ⟨a, bs, hbs, rfl⟩ | ⟨a, rfl⟩ | rfl | rfl | rfl | ⟨a, d, k, rfl⟩ | ⟨a, rfl⟩ | ⟨a, d, k, rfl⟩ :=
    decodeUnit_cases hd
  · exact runWrites_next ..
  · rw [exec_wrBurst hbs]; exact runWrites_next ..
  · exact execRd_next a s
  all_goals exact ⟨_, rfl⟩

theorem requireSleep_next {s : State} {body : Out} (h : ∃ t, body = .next t) : ∃ t, requireSleep s body = .next t := by
  unfold requireSleep
  split
  · exact h
  · exact ⟨_, rfl⟩

/-- The step a code names runs: in T_FIFO the invariant has the chunk and its bytes. -/
theorem Inv.exec_step_next {s : State} {i : Instr} (h : Inv s) (hd : decodeStep (seqCode s.core.seq) = .instr i) :
    ∃ t, exec i s = .next t := by
  cases hq : s.core.seq <;> rw [hq] at hd <;> cases hd
  case cReset => exact ⟨_, rfl⟩
  case cBitrate | cFreq => exact requireSleep_next (runWrites_next ..)
  case tPayload | tMode =>
    simp only [exec, execTPayload, execTMode]
    split
    · exact ⟨_, rfl⟩
    · exact runWrites_next ..
  case tFifo =>
    obtain ⟨n, hn, hle⟩ := h.nextChunk hq
    rw [exec_tFifo hn hle]; exact runWrites_next ..
  all_goals exact runWrites_next ..

theorem startConfigure_next (f : BitVec 32) (p : BitVec 8) (s : State) : ∃ t, startConfigure f p s = .next t := by
  unfold startConfigure
  split <;> exact ⟨_, rfl⟩

theorem gated_next (x y z : Byte) (go : NetAddr → Device → Action → State → State) (s : State) :
    ∃ t, gated x y z go s = .next t := by
  unfold gated
  split
  · exact ⟨_, rfl⟩
  · split <;> exact ⟨_, rfl⟩

/-- An idle core answers every host command. -/
theorem exec_command_next {i : Instr} {s : State} (hi : isHostCommand i = true) (hidle : idle s.core) :
    ∃ t, exec i s = .next t := by
  cases i with
  | configure => rw [exec_configure, accept_idle hidle]; exact startConfigure_next ..
  | configureDefault => rw [exec_configureDefault, accept_idle hidle]; exact startConfigure_next ..
  | transmit => rw [exec_transmit, accept_idle hidle]; exact gated_next ..
  | on => rw [exec_on, accept_idle hidle]; exact gated_next ..
  | off => rw [exec_off, accept_idle hidle]; exact gated_next ..
  | buildFrameCmd => rw [exec_buildFrameCmd, accept_idle hidle]; exact gated_next ..
  | illegal => exact ⟨_, accept_illegal hidle⟩
  | _ => cases hi

/-- Under the invariant a code that names no step is that of an idle core (R21). -/
theorem Inv.idle_of_no_step {s : State} (h : Inv s) {r : DecodeReject}
    (hd : decodeStep (seqCode s.core.seq) = .rejected r) : idle s.core := by
  have hsession := h.session
  cases hq : s.core.seq with
  | idleUnconf => exact .inl hq
  | idleReady => exact .inr hq
  | reserved15 => rw [sessionOk, hq] at hsession; exact hsession.elim
  | _ => rw [hq] at hd; cases hd

/-- A register operation without an answer waits at the fetch (R261, log entry 6). -/
theorem step_of_unanswered_unit {s : State} {u : UnitReq} {i : Instr} (hl : live s) (hu : s.unit = some u)
    (hd : decodeUnit u = .instr i) (hi : needsAnswer i = true) (he : s.env = []) : step s = .next s := by
  have hf : fetch s = .wait := by simp [fetch_of_unit hu, fetchUnit, hd, hi, he]
  rw [step_live hl, hf]

/-- Settles O5: what is fetched runs, by its source, or the step waits. -/
theorem noStepStopsFromTheInvariant : Obligations.NoStepStopsFromTheInvariant := by
  intro s h hunit
  cases hr : s.resetReq with
  | true =>
    obtain ⟨t, ht, -⟩ := pendingResetIsTaken s h.params hr
    exact ⟨t, ht⟩
  | false =>
    have hl := live_of_inv h hr
    obtain ⟨runsWord, stays, runsStep, runsUnit⟩ := stepRunsTheFetchedInstruction s hl
    cases hu : s.unit with
    | some u =>
      obtain ⟨i, hd⟩ := hunit u hu
      by_cases hready : needsAnswer i = true → s.env ≠ []
      · rw [runsUnit u i hu hd hready]; exact exec_next_of_decodeUnit hd _
      · obtain ⟨hi, he⟩ := Classical.not_imp.mp hready
        exact ⟨s, step_of_unanswered_unit hl hu hd hi (not_not.mp he)⟩
    | none =>
      cases hd : decodeStep (seqCode s.core.seq) with
      | instr i => rw [runsStep i hu hd]; exact h.exec_step_next hd
      | rejected r =>
        have hidle := h.idle_of_no_step hd
        cases hw : s.host with
        | nil => exact ⟨s, stays hu hidle hw⟩
        | cons w ws => rw [runsWord w ws hu hidle hw]; exact exec_command_next (decodeCmd_isHostCommand w) hidle

end Sys2Proof.Machine
end

section
/-! Decoding what was encoded: the words of host commands, the transactions of register operations, and the packets and
frames of the default tables. -/

namespace Sys2Proof

open Machine

/-! ## Host commands and transactions -/

theorem decodeCmd_encodeBuildFrame (addr dev act : Byte) :
    decodeCmd (encodeTx 0x03 addr dev act) = .buildFrameCmd addr dev act := by
  obtain ⟨hrow, haddr, hdev, hact⟩ := isTxWord_encodeTx 0x03 addr dev act
  rw [decodeCmd_of_buildFrame hrow, haddr, hdev, hact]

/-- The address byte gives back the write indicator and the address (R90). -/
theorem addrByte_fields : ∀ (write : Bool) (a : RegAddr),
    (addrByte write a).getLsbD 7 = write ∧ (addrByte write a).extractLsb' 0 7 = a := by
  decide

theorem decodeTxn_write (a : RegAddr) {bs : List Byte} (hbs : bs ≠ []) :
    decodeTxn (addrByte true a :: bs) = .instr (singleWrite a bs) := by
  obtain ⟨hwrite, haddr⟩ := addrByte_fields true a
  match bs with
  | [v] => simp [decodeTxn, hwrite, haddr, singleWrite]
  | v :: w :: rest => simp [decodeTxn, hwrite, haddr, singleWrite]

theorem decodeTxn_read (a : RegAddr) : decodeTxn [addrByte false a, 0x00] = .instr (.rd a) := by
  obtain ⟨hread, haddr⟩ := addrByte_fields false a
  simp only [decodeTxn, hread, haddr]
  rfl

/-! ## Packets and frames -/

/-- The first five bytes of a packet give its address (R96). -/
theorem packetAddr_pack (a : NetAddr) (bs : List Byte) : packetAddr (pack (addrField a) ++ bs) = a := by
  have hfield : ∀ a : NetAddr, packetAddr (pack (addrField a)) = a := by decide
  have hlen : (pack (addrField a)).length = 5 := rfl
  rw [packetAddr, List.take_append_of_le_length hlen.ge]
  exact hfield a

theorem pack_packetSyms (a : NetAddr) (body : List Nibble) :
    pack (packetSyms a body) = pack (addrField a) ++ pack (sep ++ body ++ pad) := rfl

theorem packetAddr_cmdPacket (p : Params) (a : NetAddr) (d : Device) (c : Action) (bs : List Byte) :
    packetAddr (cmdPacket p a d c ++ bs) = a := by
  rw [cmdPacket, cmdSyms_eq, pack_packetSyms, List.append_assoc, packetAddr_pack]

theorem packetAddr_endPacket (p : Params) (a : NetAddr) : packetAddr (endPacket p a) = a := by
  rw [endPacket, endSyms_eq, pack_packetSyms, packetAddr_pack]

/-- A command packet tells its device and action, where the tables tell them apart (R185, R187). -/
theorem cmdPacket_injective {p : Params} (hsel : p.groupSel ≠ p.groupFill) (hacts : p.actOn ≠ p.actOff) {a : NetAddr}
    {d d' : Device} {c c' : Action} (h : cmdPacket p a d c = cmdPacket p a d' c') : d = d' ∧ c = c' := by
  have hsyms : cmdSyms p a d c = cmdSyms p a d' c' := pack_injective 13 (cmdSyms_length ..) (cmdSyms_length ..) h
  obtain ⟨-, hdev, hact⟩ := cmdSyms_fields hsyms
  exact ⟨(deviceFieldSelectsOneGroup p hsel).1 d d' hdev, actField_injective hacts hact⟩

/-- The default end tail selects no device, as every command packet does (R189). -/
theorem cmdPacket_ne_endPacket (a : NetAddr) (d : Device) (c : Action) :
    cmdPacket defaultParams a d c ≠ endPacket defaultParams a := by
  intro h
  have hsyms := pack_injective 13 (cmdSyms_length ..) (endSyms_length ..) h
  rw [cmdSyms_eq, endSyms_eq] at hsyms
  obtain ⟨hdata, -⟩ := List.append_inj' hsyms rfl
  obtain ⟨-, hbody⟩ := List.append_inj hdata rfl
  have hdiffers : devField defaultParams d ++ actField defaultParams c ≠ endField defaultParams := by
    cases d <;> cases c <;> decide
  exact hdiffers hbody

theorem mem_deviceActions (d : Device) (c : Action) : (d, c) ∈ deviceActions := by
  cases d <;> cases c <;> decide

theorem packetOperands_cmdPacket (a : NetAddr) (d : Device) (c : Action) (bs : List Byte) :
    packetOperands (cmdPacket defaultParams a d c ++ bs) = some (d, c) := by
  have htake : (cmdPacket defaultParams a d c ++ bs).take 13 = cmdPacket defaultParams a d c :=
    List.take_left' (cmdPacket_length ..)
  rw [packetOperands, packetAddr_cmdPacket, htake]
  cases hfind : deviceActions.find? _ with
  | none => simpa using List.find?_eq_none.mp hfind (d, c) (mem_deviceActions d c)
  | some dc =>
    obtain ⟨hd, hc⟩ := cmdPacket_injective (by decide) (by decide) (of_decide_eq_true (List.find?_some hfind :))
    rw [← hd, ← hc]

theorem decodePacket_cmdPacket (a : NetAddr) (d : Device) (c : Action) :
    decodePacket (cmdPacket defaultParams a d c) = .instr (.cmdPacket a d c) := by
  have haddr := packetAddr_cmdPacket defaultParams a d c []
  have hoperands := packetOperands_cmdPacket a d c []
  rw [List.append_nil] at haddr hoperands
  simp [decodePacket, cmdPacket_length, haddr, hoperands, cmdPacket_ne_endPacket]

theorem decodePacket_endPacket (a : NetAddr) :
    decodePacket (endPacket defaultParams a) = .instr (.endPacket a) := by
  simp [decodePacket, endPacket_length, packetAddr_endPacket]

theorem buildFrame_first (p : Params) (a : NetAddr) (d : Device) (c : Action) :
    ∃ bs, buildFrame p a d c = cmdPacket p a d c ++ bs := by
  rw [buildFrame, cmdRepeat, List.replicate_succ, List.flatten_cons, List.append_assoc]
  exact ⟨_, rfl⟩

theorem decodeFrame_buildFrame (a : NetAddr) (d : Device) (c : Action) :
    decodeFrame (buildFrame defaultParams a d c) = .instr (.buildFrame a d c) := by
  obtain ⟨bs, hfirst⟩ := buildFrame_first defaultParams a d c
  have haddr : packetAddr (buildFrame defaultParams a d c) = a := by rw [hfirst, packetAddr_cmdPacket]
  have hoperands : packetOperands (buildFrame defaultParams a d c) = some (d, c) := by
    rw [hfirst, packetOperands_cmdPacket]
  rw [decodeFrame, hoperands]
  simp [haddr]

/-- Settles O13, by the format of the row. -/
theorem decodeOfEncodeAgrees : Obligations.DecodeOfEncodeAgrees := by
  intro i hwf
  cases i with
  | configure d pwr freq => exact congrArg Decoded.instr (decodeCmd_encodeConfigure d pwr freq)
  | transmit addr dev act => exact congrArg Decoded.instr (decodeCmd_encodeTransmit addr dev act)
  | buildFrameCmd addr dev act => exact congrArg Decoded.instr (decodeCmd_encodeBuildFrame addr dev act)
  | configureDefault => decide
  | on addr dev => exact congrArg Decoded.instr (decodeCmd_encodeTransmit addr dev 0x01)
  | off addr dev => exact congrArg Decoded.instr (decodeCmd_encodeTransmit addr dev 0x00)
  | illegal w => exact congrArg Decoded.instr (decodeCmd_of_no_row (by simpa [wellFormed] using hwf))
  | wr a v => exact decodeTxn_write a (List.cons_ne_nil v [])
  | wrBurst a bs => exact decodeTxn_write a (by simpa [wellFormed] using hwf)
  | rd a => exact decodeTxn_read a
  | cmdPacket a d c => exact decodePacket_cmdPacket a d c
  | endPacket a => exact decodePacket_endPacket a
  | buildFrame a d c => exact decodeFrame_buildFrame a d c
  | _ => rfl

end Sys2Proof
end
